-- ==== Sys2Proof/Word.lean ====
section
/-! DEFINITION. The word types of the DSP: bytes, ARAM addresses, voice numbers, register addresses (00_scope.md R6, R7; 20_memory.md R80). -/

namespace Sys2Proof

/-- A byte is 8 bits (R7). -/
abbrev Byte := BitVec 8

/-- An ARAM address: 16 bits, so that address arithmetic wraps modulo 0x10000 (R85). -/
abbrev Addr := BitVec 16

/-- A voice number, 0..7 (R7). -/
abbrev VoiceId := Fin 8

/-- A register address, 0x00..0x7F (R20, R111). -/
abbrev RegAddr := Fin 128

end Sys2Proof
end

