-- ==== Sys2Proof/Machine/DspState.lean ====
section
/-! DEFINITION. The mutable fields of the DSP (10_state.md R20 to R65): what `CopyState` saves and what a caller gives it to load
(R370). -/

namespace Sys2Proof.Machine

/-- A left/right pair of integers (R12): a `Stereo`, with every clamp written where the rules write it. -/
structure Stereo where
  l : Int
  r : Int
  deriving DecidableEq, Repr

/-- The envelope modes (R63). -/
inductive EnvMode where
  | release
  | attack
  | decay
  | sustain
  deriving DecidableEq, Repr

/-- The state of one voice (R59 to R65). Signed and counted quantities are integers, kept in range by the rules (entry 19). -/
structure Voice where
  /-- R59: the BRR decode ring, 12 signed samples. -/
  buf : Vector Int 12
  /-- R59: where the next group of 4 goes: 0, 4 or 8. -/
  bufPos : Nat
  /-- R60: the pitch accumulator, 0..0x7FFF. -/
  interpPos : Int
  /-- R61: the header of the block being decoded. -/
  brrAddr : Addr
  /-- R61: offset of the next pair of data bytes: 1, 3, 5 or 7. -/
  brrOffset : Nat
  /-- R62: the key-on delay, 0..5. -/
  konDelay : Nat
  /-- R63. -/
  envMode : EnvMode
  /-- R64: the envelope level, 0..0x7FF. -/
  env : Int
  /-- R64: the last candidate level before clamping. -/
  hiddenEnv : Int
  /-- R65: `env >> 4` as captured at V3c. -/
  tEnvxOut : Byte
  deriving DecidableEq, Repr

/-- The DSP's own mutable state: the elements of R20 to R65 that `CopyState` copies (R370 (a)), in the order of 10_state.md. -/
structure Dsp where
  /-- R20: the register bank. -/
  regs : Vector Byte 128
  /-- R46: the phase, the block's program counter. -/
  phase : Fin 32
  /-- R47: the rate counter, 0..30719. -/
  counter : Nat
  /-- R48: true after the toggle of M29 makes the sample a latch sample. -/
  everyOtherSample : Bool
  /-- R49. -/
  newKon : Byte
  /-- R49. -/
  kon : Byte
  /-- R49. -/
  tKoff : Byte
  /-- R50: the noise register. -/
  noise : BitVec 15
  /-- R51: the echo history ring. -/
  echoHist : Vector Stereo 8
  /-- R51: index of the newest entry. -/
  echoHistPos : Fin 8
  /-- R52: rolling offset into the echo region. -/
  echoOffset : Nat
  /-- R52: length of the echo region. -/
  echoLength : Nat
  /-- R53. -/
  tPmon : Byte
  /-- R53. -/
  tNon : Byte
  /-- R53. -/
  tEon : Byte
  /-- R53. -/
  tDir : Byte
  /-- R53. -/
  tEsa : Byte
  /-- R53: a copy of FLG; only bit 5 is used. -/
  tEchoEnabled : Byte
  /-- R54. -/
  tSrcn : Byte
  /-- R54. -/
  tDirAddr : Addr
  /-- R54. -/
  tBrrNextAddr : Addr
  /-- R54. -/
  tAdsr0 : Byte
  /-- R54: the pitch in the pipeline, non-negative. -/
  tPitch : Int
  /-- R54. -/
  tBrrHeader : Byte
  /-- R54. -/
  tBrrByte : Byte
  /-- R54: the enveloped output of the voice whose V3c ran last. -/
  tOutput : Int
  /-- R54. -/
  tLooped : Byte
  /-- R55: the running main mix. -/
  tMainOut : Stereo
  /-- R55: the running echo-input mix. -/
  tEchoOut : Stereo
  /-- R55: the FIR working sum. -/
  tEchoIn : Stereo
  /-- R55: address of the current echo frame. -/
  tEchoPtr : Addr
  /-- R56. -/
  endxBuf : Byte
  /-- R56. -/
  outxBuf : Byte
  /-- R56. -/
  envxBuf : Byte
  /-- R57. -/
  muteMask : Byte
  /-- R58: pairs emitted since the last `Reset`. -/
  sampleCount : Nat
  /-- R59 to R65: one copy per voice. -/
  voices : Vector Voice 8
  deriving DecidableEq, Repr

end Sys2Proof.Machine
end

