-- ==== Sys2Proof/Syntax.lean ====
section
/-! DEFINITION. The instructions: one constructor per row of spec/opcode_table.json, in the table's order. An instruction is a
micro-op of the phase table or a Host operation, and the opcode table is the phase table plus the encodings (00_scope.md R13). -/

namespace Sys2Proof

/-- How the Host uses a register address: it reads the byte there, or writes one (R362, R363). -/
inductive RegAccess where
  | read
  | write (data : Byte)
  deriving DecidableEq, Repr

/-- The two directions of `CopyState` (R370): a save returns the stream, a load takes the stream its caller gives, as the record of the
fields (entry 9). -/
inductive CopyDir where
  | save
  | load (stream : Machine.Dsp)
  deriving DecidableEq, Repr

/-- The ARAM a Host hands to `Construct` (R361): its length in bytes, and its bytes that are not zero (entry 30). -/
structure AramImage where
  size  : Nat
  cells : List Host.Cell
  deriving DecidableEq, Repr

/-- The micro-ops of the phase table (R162, glossary): the voice micro-ops, the echo unit's and the global ones. -/
inductive MicroOp where
  | v1 (v : VoiceId) | v2 (v : VoiceId) | v3a (v : VoiceId) | v3b (v : VoiceId) | v3c (v : VoiceId) | v4 (v : VoiceId)
  | v5 (v : VoiceId) | v6 (v : VoiceId) | v7 (v : VoiceId) | v8 (v : VoiceId) | v9 (v : VoiceId)
  | e22 | e23 | e24 | e25 | e26 | e27 | e28 | e29 | e30
  | m27 | m28 | m29 | m30
  deriving DecidableEq, Repr

/-- The rows of the opcode table. -/
inductive Instr where
  -- the phase table: one row per phase (R124, R162)
  /-- R162 row 0 -/
  | ph0
  /-- R162 row 1 -/
  | ph1
  /-- R162 row 2 -/
  | ph2
  /-- R162 row 3 -/
  | ph3
  /-- R162 row 4 -/
  | ph4
  /-- R162 row 5 -/
  | ph5
  /-- R162 row 6 -/
  | ph6
  /-- R162 row 7 -/
  | ph7
  /-- R162 row 8 -/
  | ph8
  /-- R162 row 9 -/
  | ph9
  /-- R162 row 10 -/
  | ph10
  /-- R162 row 11 -/
  | ph11
  /-- R162 row 12 -/
  | ph12
  /-- R162 row 13 -/
  | ph13
  /-- R162 row 14 -/
  | ph14
  /-- R162 row 15 -/
  | ph15
  /-- R162 row 16 -/
  | ph16
  /-- R162 row 17 -/
  | ph17
  /-- R162 row 18 -/
  | ph18
  /-- R162 row 19 -/
  | ph19
  /-- R162 row 20 -/
  | ph20
  /-- R162 row 21 -/
  | ph21
  /-- R162 row 22 -/
  | ph22
  /-- R162 row 23 -/
  | ph23
  /-- R162 row 24 -/
  | ph24
  /-- R162 row 25 -/
  | ph25
  /-- R162 row 26 -/
  | ph26
  /-- R162 row 27 -/
  | ph27
  /-- R162 row 28 -/
  | ph28
  /-- R162 row 29 -/
  | ph29
  /-- R162 row 30 -/
  | ph30
  /-- R162 row 31 -/
  | ph31
  -- the micro-op instances (R201 to R220, R301 to R313, R164 to R167)
  /-- R216: V5(0), phase 0 slot 0 -/
  | v5_0
  /-- R202: V2(1), phase 0 slot 1 -/
  | v2_1
  /-- R217: V6(0), phase 1 slot 0 -/
  | v6_0
  /-- R203: V3a(1), phase 1 slot 1 -/
  | v3a_1
  /-- R204: V3b(1), phase 1 slot 2 -/
  | v3b_1
  /-- R205: V3c(1), phase 1 slot 3 -/
  | v3c_1
  /-- R218: V7(0), phase 2 slot 0 -/
  | v7_0
  /-- R212: V4(1), phase 2 slot 1 -/
  | v4_1
  /-- R201: V1(3), phase 2 slot 2 -/
  | v1_3
  /-- R219: V8(0), phase 3 slot 0 -/
  | v8_0
  /-- R216: V5(1), phase 3 slot 1 -/
  | v5_1
  /-- R202: V2(2), phase 3 slot 2 -/
  | v2_2
  /-- R220: V9(0), phase 4 slot 0 -/
  | v9_0
  /-- R217: V6(1), phase 4 slot 1 -/
  | v6_1
  /-- R203: V3a(2), phase 4 slot 2 -/
  | v3a_2
  /-- R204: V3b(2), phase 4 slot 3 -/
  | v3b_2
  /-- R205: V3c(2), phase 4 slot 4 -/
  | v3c_2
  /-- R218: V7(1), phase 5 slot 0 -/
  | v7_1
  /-- R212: V4(2), phase 5 slot 1 -/
  | v4_2
  /-- R201: V1(4), phase 5 slot 2 -/
  | v1_4
  /-- R219: V8(1), phase 6 slot 0 -/
  | v8_1
  /-- R216: V5(2), phase 6 slot 1 -/
  | v5_2
  /-- R202: V2(3), phase 6 slot 2 -/
  | v2_3
  /-- R220: V9(1), phase 7 slot 0 -/
  | v9_1
  /-- R217: V6(2), phase 7 slot 1 -/
  | v6_2
  /-- R203: V3a(3), phase 7 slot 2 -/
  | v3a_3
  /-- R204: V3b(3), phase 7 slot 3 -/
  | v3b_3
  /-- R205: V3c(3), phase 7 slot 4 -/
  | v3c_3
  /-- R218: V7(2), phase 8 slot 0 -/
  | v7_2
  /-- R212: V4(3), phase 8 slot 1 -/
  | v4_3
  /-- R201: V1(5), phase 8 slot 2 -/
  | v1_5
  /-- R219: V8(2), phase 9 slot 0 -/
  | v8_2
  /-- R216: V5(3), phase 9 slot 1 -/
  | v5_3
  /-- R202: V2(4), phase 9 slot 2 -/
  | v2_4
  /-- R220: V9(2), phase 10 slot 0 -/
  | v9_2
  /-- R217: V6(3), phase 10 slot 1 -/
  | v6_3
  /-- R203: V3a(4), phase 10 slot 2 -/
  | v3a_4
  /-- R204: V3b(4), phase 10 slot 3 -/
  | v3b_4
  /-- R205: V3c(4), phase 10 slot 4 -/
  | v3c_4
  /-- R218: V7(3), phase 11 slot 0 -/
  | v7_3
  /-- R212: V4(4), phase 11 slot 1 -/
  | v4_4
  /-- R201: V1(6), phase 11 slot 2 -/
  | v1_6
  /-- R219: V8(3), phase 12 slot 0 -/
  | v8_3
  /-- R216: V5(4), phase 12 slot 1 -/
  | v5_4
  /-- R202: V2(5), phase 12 slot 2 -/
  | v2_5
  /-- R220: V9(3), phase 13 slot 0 -/
  | v9_3
  /-- R217: V6(4), phase 13 slot 1 -/
  | v6_4
  /-- R203: V3a(5), phase 13 slot 2 -/
  | v3a_5
  /-- R204: V3b(5), phase 13 slot 3 -/
  | v3b_5
  /-- R205: V3c(5), phase 13 slot 4 -/
  | v3c_5
  /-- R218: V7(4), phase 14 slot 0 -/
  | v7_4
  /-- R212: V4(5), phase 14 slot 1 -/
  | v4_5
  /-- R201: V1(7), phase 14 slot 2 -/
  | v1_7
  /-- R219: V8(4), phase 15 slot 0 -/
  | v8_4
  /-- R216: V5(5), phase 15 slot 1 -/
  | v5_5
  /-- R202: V2(6), phase 15 slot 2 -/
  | v2_6
  /-- R220: V9(4), phase 16 slot 0 -/
  | v9_4
  /-- R217: V6(5), phase 16 slot 1 -/
  | v6_5
  /-- R203: V3a(6), phase 16 slot 2 -/
  | v3a_6
  /-- R204: V3b(6), phase 16 slot 3 -/
  | v3b_6
  /-- R205: V3c(6), phase 16 slot 4 -/
  | v3c_6
  /-- R201: V1(0), phase 17 slot 0 -/
  | v1_0
  /-- R218: V7(5), phase 17 slot 1 -/
  | v7_5
  /-- R212: V4(6), phase 17 slot 2 -/
  | v4_6
  /-- R219: V8(5), phase 18 slot 0 -/
  | v8_5
  /-- R216: V5(6), phase 18 slot 1 -/
  | v5_6
  /-- R202: V2(7), phase 18 slot 2 -/
  | v2_7
  /-- R220: V9(5), phase 19 slot 0 -/
  | v9_5
  /-- R217: V6(6), phase 19 slot 1 -/
  | v6_6
  /-- R203: V3a(7), phase 19 slot 2 -/
  | v3a_7
  /-- R204: V3b(7), phase 19 slot 3 -/
  | v3b_7
  /-- R205: V3c(7), phase 19 slot 4 -/
  | v3c_7
  /-- R201: V1(1), phase 20 slot 0 -/
  | v1_1
  /-- R218: V7(6), phase 20 slot 1 -/
  | v7_6
  /-- R212: V4(7), phase 20 slot 2 -/
  | v4_7
  /-- R219: V8(6), phase 21 slot 0 -/
  | v8_6
  /-- R216: V5(7), phase 21 slot 1 -/
  | v5_7
  /-- R202: V2(0), phase 21 slot 2 -/
  | v2_0
  /-- R203: V3a(0), phase 22 slot 0 -/
  | v3a_0
  /-- R220: V9(6), phase 22 slot 1 -/
  | v9_6
  /-- R217: V6(7), phase 22 slot 2 -/
  | v6_7
  /-- R301: E22, phase 22 slot 3 -/
  | e22
  /-- R218: V7(7), phase 23 slot 0 -/
  | v7_7
  /-- R304: E23, phase 23 slot 1 -/
  | e23
  /-- R219: V8(7), phase 24 slot 0 -/
  | v8_7
  /-- R305: E24, phase 24 slot 1 -/
  | e24
  /-- R204: V3b(0), phase 25 slot 0 -/
  | v3b_0
  /-- R220: V9(7), phase 25 slot 1 -/
  | v9_7
  /-- R306: E25, phase 25 slot 2 -/
  | e25
  /-- R308: E26, phase 26 slot 0 -/
  | e26
  /-- R164: M27, phase 27 slot 0 -/
  | m27
  /-- R309: E27, phase 27 slot 1 -/
  | e27
  /-- R165: M28, phase 28 slot 0 -/
  | m28
  /-- R310: E28, phase 28 slot 1 -/
  | e28
  /-- R166: M29, phase 29 slot 0 -/
  | m29
  /-- R311: E29, phase 29 slot 1 -/
  | e29
  /-- R167: M30, phase 30 slot 0 -/
  | m30
  /-- R205: V3c(0), phase 30 slot 1 -/
  | v3c_0
  /-- R313: E30, phase 30 slot 2 -/
  | e30
  /-- R212: V4(0), phase 31 slot 0 -/
  | v4_0
  /-- R201: V1(2), phase 31 slot 1 -/
  | v1_2
  /-- R362: WriteReg(addr, data); `57 aa dd` -/
  | writeReg (addr data : Int)
  /-- R363: ReadReg(addr); `52 aa` -/
  | readReg (addr : Int)
  /-- R367: Host write of one ARAM byte; `41 ll hh dd` -/
  | aramWrite (addr : Addr) (data : Byte)
  /-- R367: Host read of one ARAM byte; `61 ll hh` -/
  | aramRead (addr : Addr)
  /-- R160: Run(ticks); `4E` and 4 bytes little-endian -/
  | run (ticks : Int)
  /-- R420: Reset(); `5A` -/
  | reset
  /-- R368: MuteVoices(mask); `4D mm` -/
  | muteVoices (mask : Int)
  /-- R128: `FRAMES #k` = `RUN #(32*k)` -/
  | frames (k : Nat)
  /-- R128: RESET, 128 register writes of 0, FLG = 0x20 -/
  | init
  /-- R128: two register writes, low byte first -/
  | pitch (v : VoiceId) (pppp : BitVec 16)
  /-- R128: `W 4C,mm` -/
  | keyOn (mm : Byte)
  /-- R128: `W 5C,mm` -/
  | keyOff (mm : Byte)
  /-- R128: four ARAM writes -/
  | dirEnt (pp nn : Byte) (ssss llll : BitVec 16)
  /-- R128: nine ARAM writes -/
  | brrBlock (aaaa : Addr) (block : Vector Byte 9)
  /-- R361: Construct(aram) -/
  | construct (aram : Option AramImage)
  /-- R370: CopyState(copy), saving or loading -/
  | copyState (dir : CopyDir)
  /-- R331 -/
  | resamplerConstruct (sizeBytes : Int)
  /-- R332 -/
  | push (bytes : List Byte)
  /-- R333 -/
  | readSamples (sampleCount : Int)
  /-- R335 -/
  | setTimeRatio (ratio : Rat)
  /-- R336 -/
  | getTimeRatio
  /-- R337 -/
  | available
  /-- R338 -/
  | clear
  /-- R339 -/
  | resize (sizeBytes : Int)
  /-- R340 -/
  | cacheSilence
  /-- R22: register `vvv0000` -/
  | voll (v : VoiceId) (acc : RegAccess)
  /-- R22: register `vvv0001` -/
  | volr (v : VoiceId) (acc : RegAccess)
  /-- R23: register `vvv0010` -/
  | pitchl (v : VoiceId) (acc : RegAccess)
  /-- R23: register `vvv0011` -/
  | pitchh (v : VoiceId) (acc : RegAccess)
  /-- R24: register `vvv0100` -/
  | srcn (v : VoiceId) (acc : RegAccess)
  /-- R25: register `vvv0101` -/
  | adsr1 (v : VoiceId) (acc : RegAccess)
  /-- R26: register `vvv0110` -/
  | adsr2 (v : VoiceId) (acc : RegAccess)
  /-- R27: register `vvv0111` -/
  | gain (v : VoiceId) (acc : RegAccess)
  /-- R28: register `vvv1000` -/
  | envx (v : VoiceId) (acc : RegAccess)
  /-- R29: register `vvv1001` -/
  | outx (v : VoiceId) (acc : RegAccess)
  /-- R45: register `vvv1010` -/
  | unusedA (v : VoiceId) (acc : RegAccess)
  /-- R45: register `vvv1011` -/
  | unusedB (v : VoiceId) (acc : RegAccess)
  /-- R45: register `vvv1110` -/
  | unusedE (v : VoiceId) (acc : RegAccess)
  /-- R44: register `xxx1111` -/
  | fir (x : VoiceId) (acc : RegAccess)
  /-- R31: register 0x0C -/
  | mvoll (acc : RegAccess)
  /-- R31: register 0x1C -/
  | mvolr (acc : RegAccess)
  /-- R32: register 0x2C -/
  | evoll (acc : RegAccess)
  /-- R32: register 0x3C -/
  | evolr (acc : RegAccess)
  /-- R33: register 0x4C -/
  | kon (acc : RegAccess)
  /-- R34: register 0x5C -/
  | koff (acc : RegAccess)
  /-- R35: register 0x6C -/
  | flg (acc : RegAccess)
  /-- R36: register 0x7C -/
  | endx (acc : RegAccess)
  /-- R37: register 0x0D -/
  | efb (acc : RegAccess)
  /-- R45: register 0x1D -/
  | unused1D (acc : RegAccess)
  /-- R38: register 0x2D -/
  | pmon (acc : RegAccess)
  /-- R39: register 0x3D -/
  | non (acc : RegAccess)
  /-- R40: register 0x4D -/
  | eon (acc : RegAccess)
  /-- R41: register 0x5D -/
  | dir (acc : RegAccess)
  /-- R42: register 0x6D -/
  | esa (acc : RegAccess)
  /-- R43: register 0x7D -/
  | edl (acc : RegAccess)
  /-- R112 `rmennnnn` -/
  | flgFields (r m e : Bool) (n : BitVec 5)
  /-- R113 `edddaaaa` -/
  | adsr1Fields (v : VoiceId) (e : Bool) (d : BitVec 3) (a : BitVec 4)
  /-- R114 `lllrrrrr` -/
  | adsr2Fields (v : VoiceId) (l : BitVec 3) (r : BitVec 5)
  /-- R266 `0vvvvvvv` -/
  | gainDirect (v : VoiceId) (level : BitVec 7)
  /-- R267 `100rrrrr` -/
  | gainLinearDecrease (v : VoiceId) (r : BitVec 5)
  /-- R268 `101rrrrr` -/
  | gainExponentialDecrease (v : VoiceId) (r : BitVec 5)
  /-- R269 `110rrrrr` -/
  | gainLinearIncrease (v : VoiceId) (r : BitVec 5)
  /-- R270 `111rrrrr` -/
  | gainTwoSlopeIncrease (v : VoiceId) (r : BitVec 5)
  /-- R116 `xxpppppp` -/
  | pitchhFields (v : VoiceId) (x : BitVec 2) (p : BitVec 6)
  /-- R244 `ssss00le` -/
  | brrFilter0 (v : VoiceId) (sh : BitVec 4) (l e : Bool)
  /-- R245 `ssss01le` -/
  | brrFilter1 (v : VoiceId) (sh : BitVec 4) (l e : Bool)
  /-- R246 `ssss10le` -/
  | brrFilter2 (v : VoiceId) (sh : BitVec 4) (l e : Bool)
  /-- R247 `ssss11le` -/
  | brrFilter3 (v : VoiceId) (sh : BitVec 4) (l e : Bool)
  /-- R242 `ssssffle`, s in 0..12 -/
  | brrShiftValid (v : VoiceId) (sh : BitVec 4) (f : BitVec 2) (l e : Bool)
  /-- R243 `11ssffle`, s in 1..3 (shift 12 + s) -/
  | brrShiftInvalid (v : VoiceId) (sh : BitVec 2) (f : BitVec 2) (l e : Bool)
  /-- R209 `ssssff01` -/
  | brrTerminator (v : VoiceId) (sh : BitVec 4) (f : BitVec 2)
  /-- R213 `ssssff11` -/
  | brrEndLoop (v : VoiceId) (sh : BitVec 4) (f : BitVec 2)
  /-- R213 `ssssffl0` -/
  | brrNotEnd (v : VoiceId) (sh : BitVec 4) (f : BitVec 2) (l : Bool)
  /-- R122 `aaaabbbb` -/
  | brrData (v : VoiceId) (a b : BitVec 4)
  /-- R119: four bytes, both words little-endian -/
  | directoryEntry (v : VoiceId) (start loopAddr : BitVec 16)
  /-- R123: four bytes, both words little-endian -/
  | echoFrame (left right : BitVec 16)
  /-- R129: four bytes, both words little-endian -/
  | outputPair (left right : BitVec 16)
  deriving DecidableEq, Repr

end Sys2Proof
end

