-- ==== Sys2Proof/Decode.lean ====
section
/-! DEFINITION. The decoder: what each unit of the DSP and the reader of Host commands take a word for, format by format
(30_encoding.md R110), total on any bytes and rejecting by name; and the encoder, written from the same tables. -/

namespace Sys2Proof

/-- The formats of R110 and R127. A format that a voice's micro-op or a register access decodes names that voice or access, since
the word itself does not. The three ways the table reads a BRR header (its filter, its shift, its end and loop flags) are three
formats of the same byte (R121). -/
inductive Format where
  /-- PH, the phase index (R124). -/
  | ph
  /-- A micro-op instance: phase in bits 4..0, slot in the row in bits 7..5 (entry 17). -/
  | uop
  /-- A Host command (R127). -/
  | hcs
  /-- A register address (R111), for the access the Host makes. -/
  | ra (acc : RegAccess)
  /-- The FLG byte (R112). -/
  | flg
  /-- The ADSR1 byte (R113). -/
  | adsr1 (v : VoiceId)
  /-- The ADSR2 byte (R114). -/
  | adsr2 (v : VoiceId)
  /-- The GAIN byte (R115). -/
  | gain (v : VoiceId)
  /-- The PITCHH byte of the pitch pair (R116). -/
  | pitchh (v : VoiceId)
  /-- A BRR header, by its filter (R121, R244 to R247). -/
  | brrFilter (v : VoiceId)
  /-- A BRR header, by its shift (R121, R242, R243). -/
  | brrShift (v : VoiceId)
  /-- A BRR header, by its end and loop flags (R121, R209, R213). -/
  | brrEnd (v : VoiceId)
  /-- A BRR data byte (R122). -/
  | brrData (v : VoiceId)
  /-- A directory entry (R119). -/
  | directoryEntry (v : VoiceId)
  /-- An echo frame (R123). -/
  | echoFrame
  /-- The four bytes of an output pair (R129). -/
  | outputPair
  deriving DecidableEq, Repr

/-- Why a word is rejected. -/
inductive DecodeError where
  /-- The bytes end inside the word. -/
  | truncated
  /-- The first byte is no Host command (R127). -/
  | notACommand
  /-- The word has bits its format does not have: a phase above 31, a register address above 0x7F, a slot the row lacks. -/
  | outOfRange
  deriving DecidableEq, Repr

/-- The result of decoding: an instruction and the bytes after it. -/
abbrev Decoded := Except DecodeError (Instr × List Byte)

/-- A 16-bit word from its two bytes, low byte first (R82). -/
def wordOfBytes (lo hi : Byte) : BitVec 16 := BitVec.ofNat 16 (lo.toNat + 256 * hi.toNat)

/-- The byte at the lower address of a 16-bit word (R82). -/
def lowByte (w : BitVec 16) : Byte := BitVec.ofNat 8 w.toNat

/-- The byte at the higher address of a 16-bit word (R82). -/
def highByte (w : BitVec 16) : Byte := BitVec.ofNat 8 (w.toNat / 256)

/-- The rows of the phase table, by phase (R124). -/
def phRows : Vector Instr 32 :=
  #v[.ph0, .ph1, .ph2, .ph3, .ph4, .ph5, .ph6, .ph7, .ph8, .ph9, .ph10, .ph11, .ph12, .ph13, .ph14, .ph15,
     .ph16, .ph17, .ph18, .ph19, .ph20, .ph21, .ph22, .ph23, .ph24, .ph25, .ph26, .ph27, .ph28, .ph29, .ph30, .ph31]

/-- The micro-op instances of phases 0 to 7, by slot. -/
def uopRows0 : List (List Instr) :=
  [[.v5_0, .v2_1],
   [.v6_0, .v3a_1, .v3b_1, .v3c_1],
   [.v7_0, .v4_1, .v1_3],
   [.v8_0, .v5_1, .v2_2],
   [.v9_0, .v6_1, .v3a_2, .v3b_2, .v3c_2],
   [.v7_1, .v4_2, .v1_4],
   [.v8_1, .v5_2, .v2_3],
   [.v9_1, .v6_2, .v3a_3, .v3b_3, .v3c_3]]

/-- The micro-op instances of phases 8 to 15, by slot. -/
def uopRows1 : List (List Instr) :=
  [[.v7_2, .v4_3, .v1_5],
   [.v8_2, .v5_3, .v2_4],
   [.v9_2, .v6_3, .v3a_4, .v3b_4, .v3c_4],
   [.v7_3, .v4_4, .v1_6],
   [.v8_3, .v5_4, .v2_5],
   [.v9_3, .v6_4, .v3a_5, .v3b_5, .v3c_5],
   [.v7_4, .v4_5, .v1_7],
   [.v8_4, .v5_5, .v2_6]]

/-- The micro-op instances of phases 16 to 23, by slot. -/
def uopRows2 : List (List Instr) :=
  [[.v9_4, .v6_5, .v3a_6, .v3b_6, .v3c_6],
   [.v1_0, .v7_5, .v4_6],
   [.v8_5, .v5_6, .v2_7],
   [.v9_5, .v6_6, .v3a_7, .v3b_7, .v3c_7],
   [.v1_1, .v7_6, .v4_7],
   [.v8_6, .v5_7, .v2_0],
   [.v3a_0, .v9_6, .v6_7, .e22],
   [.v7_7, .e23]]

/-- The micro-op instances of phases 24 to 31, by slot. -/
def uopRows3 : List (List Instr) :=
  [[.v8_7, .e24],
   [.v3b_0, .v9_7, .e25],
   [.e26],
   [.m27, .e27],
   [.m28, .e28],
   [.m29, .e29],
   [.m30, .v3c_0, .e30],
   [.v4_0, .v1_2]]

/-- The micro-op instances, by phase and slot (R162; the slots as the opcode table numbers them). -/
def uopRows : List (List Instr) := uopRows0 ++ (uopRows1 ++ (uopRows2 ++ uopRows3))

/-- Format PH: the phase selects the row (R124). -/
def decodePh (w : Nat) : Except DecodeError Instr :=
  if h : w < 32 then .ok phRows[w] else .error .outOfRange

/-- A micro-op instance from its phase and slot. -/
def decodeUop (w : Nat) : Except DecodeError Instr :=
  match (uopRows.getD (w % 32) [])[w / 32]? with
  | some i => .ok i
  | none => .error .outOfRange

/-- Column C of the register map: MVOLL, MVOLR, EVOLL, EVOLR, KON, KOFF, FLG, ENDX by row (R111). -/
def columnC (acc : RegAccess) : Vector Instr 8 :=
  #v[.mvoll acc, .mvolr acc, .evoll acc, .evolr acc, .kon acc, .koff acc, .flg acc, .endx acc]

/-- Column D of the register map: EFB, unused, PMON, NON, EON, DIR, ESA, EDL by row (R111). -/
def columnD (acc : RegAccess) : Vector Instr 8 :=
  #v[.efb acc, .unused1D acc, .pmon acc, .non acc, .eon acc, .dir acc, .esa acc, .edl acc]

/-- The register at row `x` and index `r` of the map (R111). -/
def regRow (acc : RegAccess) (x : Fin 8) (r : Fin 16) : Instr :=
  (#v[.voll x acc, .volr x acc, .pitchl x acc, .pitchh x acc,
      .srcn x acc, .adsr1 x acc, .adsr2 x acc, .gain x acc,
      .envx x acc, .outx x acc, .unusedA x acc, .unusedB x acc,
      (columnC acc)[x], (columnD acc)[x], .unusedE x acc, .fir x acc] : Vector Instr 16)[r]

/-- Format RA: bits 6..4 are the voice or global row, bits 3..0 the register index (R111). -/
def decodeRa (acc : RegAccess) (b : Byte) : Except DecodeError Instr :=
  if h : b.toNat < 128 then .ok (regRow acc ⟨b.toNat / 16, by omega⟩ ⟨b.toNat % 16, by omega⟩)
  else .error .outOfRange

/-- Bit `i` of a byte. -/
def bitOf (b : Byte) (i : Nat) : Bool := b.getLsbD i

/-- The GAIN byte's five patterns (R115). -/
def decodeGain (v : VoiceId) (b : Byte) : Instr :=
  match b.toNat / 32 with
  | 4 => .gainLinearDecrease v (b.extractLsb' 0 5)
  | 5 => .gainExponentialDecrease v (b.extractLsb' 0 5)
  | 6 => .gainLinearIncrease v (b.extractLsb' 0 5)
  | 7 => .gainTwoSlopeIncrease v (b.extractLsb' 0 5)
  | _ => .gainDirect v (b.extractLsb' 0 7)

/-- A BRR header by its filter, bits 3..2 (R121). -/
def decodeBrrFilter (v : VoiceId) (b : Byte) : Instr :=
  match b.toNat / 4 % 4 with
  | 0 => .brrFilter0 v (b.extractLsb' 4 4) (bitOf b 1) (bitOf b 0)
  | 1 => .brrFilter1 v (b.extractLsb' 4 4) (bitOf b 1) (bitOf b 0)
  | 2 => .brrFilter2 v (b.extractLsb' 4 4) (bitOf b 1) (bitOf b 0)
  | _ => .brrFilter3 v (b.extractLsb' 4 4) (bitOf b 1) (bitOf b 0)

/-- A BRR header by its shift, bits 7..4: 0..12 valid, 13..15 the invalid range (R121, R126). -/
def decodeBrrShift (v : VoiceId) (b : Byte) : Instr :=
  if b.toNat / 16 ≤ 12 then .brrShiftValid v (b.extractLsb' 4 4) (b.extractLsb' 2 2) (bitOf b 1) (bitOf b 0)
  else .brrShiftInvalid v (b.extractLsb' 4 2) (b.extractLsb' 2 2) (bitOf b 1) (bitOf b 0)

/-- A BRR header by its end and loop flags, bits 0 and 1 (R121). -/
def decodeBrrEnd (v : VoiceId) (b : Byte) : Instr :=
  match b.toNat % 4 with
  | 1 => .brrTerminator v (b.extractLsb' 4 4) (b.extractLsb' 2 2)
  | 3 => .brrEndLoop v (b.extractLsb' 4 4) (b.extractLsb' 2 2)
  | _ => .brrNotEnd v (b.extractLsb' 4 4) (b.extractLsb' 2 2) (bitOf b 1)

/-- A Host command and the bytes after it (R127). -/
def decodeHcs : List Byte → Decoded
  | [] => .error .truncated
  | op :: rest =>
    match op.toNat, rest with
    | 0x57, a :: d :: r => .ok (.writeReg a.toNat d.toNat, r)
    | 0x52, a :: r => .ok (.readReg a.toNat, r)
    | 0x41, l :: h :: d :: r => .ok (.aramWrite (wordOfBytes l h) d, r)
    | 0x61, l :: h :: r => .ok (.aramRead (wordOfBytes l h), r)
    | 0x4E, a :: b :: c :: d :: r =>
      .ok (.run (a.toNat + 256 * b.toNat + 65536 * c.toNat + 16777216 * d.toNat : Nat), r)
    | 0x5A, r => .ok (.reset, r)
    | 0x4D, m :: r => .ok (.muteVoices m.toNat, r)
    | n, _ =>
      if n = 0x57 ∨ n = 0x52 ∨ n = 0x41 ∨ n = 0x61 ∨ n = 0x4E ∨ n = 0x4D then .error .truncated
      else .error .notACommand

/-- A one-byte format: the word is the first byte. -/
def oneByte (f : Byte → Except DecodeError Instr) : List Byte → Decoded
  | [] => .error .truncated
  | b :: rest => (f b).map (fun i => (i, rest))

/-- A format of two little-endian words. -/
def twoWords (f : BitVec 16 → BitVec 16 → Instr) : List Byte → Decoded
  | a :: b :: c :: d :: rest => .ok (f (wordOfBytes a b) (wordOfBytes c d), rest)
  | _ => .error .truncated

/-- The decoder: the instruction a unit reads from bytes in its format, and the bytes left. -/
def decode : Format → List Byte → Decoded
  | .ph => oneByte (fun b => decodePh b.toNat)
  | .uop => oneByte (fun b => decodeUop b.toNat)
  | .hcs => decodeHcs
  | .ra acc => oneByte (decodeRa acc)
  | .flg => oneByte (fun b => .ok (.flgFields (bitOf b 7) (bitOf b 6) (bitOf b 5) (b.extractLsb' 0 5)))
  | .adsr1 v => oneByte (fun b => .ok (.adsr1Fields v (bitOf b 7) (b.extractLsb' 4 3) (b.extractLsb' 0 4)))
  | .adsr2 v => oneByte (fun b => .ok (.adsr2Fields v (b.extractLsb' 5 3) (b.extractLsb' 0 5)))
  | .gain v => oneByte (fun b => .ok (decodeGain v b))
  | .pitchh v => oneByte (fun b => .ok (.pitchhFields v (b.extractLsb' 6 2) (b.extractLsb' 0 6)))
  | .brrFilter v => oneByte (fun b => .ok (decodeBrrFilter v b))
  | .brrShift v => oneByte (fun b => .ok (decodeBrrShift v b))
  | .brrEnd v => oneByte (fun b => .ok (decodeBrrEnd v b))
  | .brrData v => oneByte (fun b => .ok (.brrData v (b.extractLsb' 4 4) (b.extractLsb' 0 4)))
  | .directoryEntry v => twoWords (.directoryEntry v)
  | .echoFrame => twoWords .echoFrame
  | .outputPair => twoWords .outputPair

/-- A whole Host-command stream, decoded before any operation is issued (R127). The fuel is the stream's length. -/
def decodeStreamFuel : Nat → List Byte → Except DecodeError (List Instr)
  | _, [] => .ok []
  | 0, _ :: _ => .error .truncated
  | n + 1, bytes =>
    match decodeHcs bytes with
    | .ok (i, rest) => (decodeStreamFuel n rest).map (fun is => i :: is)
    | .error e => .error e

/-- The operations of a Host-command stream, or why it is malformed (R127). -/
def decodeStream (bytes : List Byte) : Except DecodeError (List Instr) := decodeStreamFuel bytes.length bytes

/-- One bit as a bit vector. -/
def bit (b : Bool) : BitVec 1 := BitVec.ofBool b

/-- The byte of the FLG format (R112). -/
def flgByte (r m e : Bool) (n : BitVec 5) : Byte := bit r ++ bit m ++ bit e ++ n

/-- The byte of the ADSR1 format (R113). -/
def adsr1Byte (e : Bool) (d : BitVec 3) (a : BitVec 4) : Byte := bit e ++ d ++ a

/-- The byte of the ADSR2 format (R114). -/
def adsr2Byte (l : BitVec 3) (r : BitVec 5) : Byte := l ++ r

/-- The byte of a GAIN pattern with bit 7 clear (R115). -/
def gainDirectByte (level : BitVec 7) : Byte := 0#1 ++ level

/-- The byte of a GAIN pattern with bit 7 set and mode bits 6..5 (R115). -/
def gainModeByte (mode : BitVec 2) (r : BitVec 5) : Byte := 1#1 ++ mode ++ r

/-- The PITCHH byte (R116). -/
def pitchhByte (x : BitVec 2) (p : BitVec 6) : Byte := x ++ p

/-- A BRR header byte (R121). -/
def brrHeaderByte (s : BitVec 4) (f : BitVec 2) (l e : Bool) : Byte := s ++ f ++ bit l ++ bit e

/-- The four-bit shift of the invalid range, 12 + s (R243). -/
def invalidShift (s : BitVec 2) : BitVec 4 := 3#2 ++ s

/-- A BRR data byte, first sample in the high nibble (R122). -/
def brrDataByte (a b : BitVec 4) : Byte := a ++ b

/-- The four bytes of two little-endian words (R119, R123, R129). -/
def wordPairBytes (x y : BitVec 16) : List Byte := [lowByte x, highByte x, lowByte y, highByte y]

/-- A phase and slot in one byte (entry 17). -/
def uopCode (phase slot : Nat) : Option (Format × List Byte) := some (.uop, [BitVec.ofNat 8 (32 * slot + phase)])

/-- A register address at row `x`, index `r` (R111). -/
def raCode (acc : RegAccess) (x : Nat) (r : Nat) : Option (Format × List Byte) :=
  some (.ra acc, [BitVec.ofNat 8 (16 * x + r)])

/-- The encoder: the format and the bytes of an instruction that has an encoding. A pseudo-command has no bytes of its own (it
expands to the bytes of core commands, R128) and an operation of the API has none (R373, 46). -/
def encode : Instr → Option (Format × List Byte)
  | .ph0 => some (.ph, [0])
  | .ph1 => some (.ph, [1])
  | .ph2 => some (.ph, [2])
  | .ph3 => some (.ph, [3])
  | .ph4 => some (.ph, [4])
  | .ph5 => some (.ph, [5])
  | .ph6 => some (.ph, [6])
  | .ph7 => some (.ph, [7])
  | .ph8 => some (.ph, [8])
  | .ph9 => some (.ph, [9])
  | .ph10 => some (.ph, [10])
  | .ph11 => some (.ph, [11])
  | .ph12 => some (.ph, [12])
  | .ph13 => some (.ph, [13])
  | .ph14 => some (.ph, [14])
  | .ph15 => some (.ph, [15])
  | .ph16 => some (.ph, [16])
  | .ph17 => some (.ph, [17])
  | .ph18 => some (.ph, [18])
  | .ph19 => some (.ph, [19])
  | .ph20 => some (.ph, [20])
  | .ph21 => some (.ph, [21])
  | .ph22 => some (.ph, [22])
  | .ph23 => some (.ph, [23])
  | .ph24 => some (.ph, [24])
  | .ph25 => some (.ph, [25])
  | .ph26 => some (.ph, [26])
  | .ph27 => some (.ph, [27])
  | .ph28 => some (.ph, [28])
  | .ph29 => some (.ph, [29])
  | .ph30 => some (.ph, [30])
  | .ph31 => some (.ph, [31])
  | .v5_0 => uopCode 0 0
  | .v2_1 => uopCode 0 1
  | .v6_0 => uopCode 1 0
  | .v3a_1 => uopCode 1 1
  | .v3b_1 => uopCode 1 2
  | .v3c_1 => uopCode 1 3
  | .v7_0 => uopCode 2 0
  | .v4_1 => uopCode 2 1
  | .v1_3 => uopCode 2 2
  | .v8_0 => uopCode 3 0
  | .v5_1 => uopCode 3 1
  | .v2_2 => uopCode 3 2
  | .v9_0 => uopCode 4 0
  | .v6_1 => uopCode 4 1
  | .v3a_2 => uopCode 4 2
  | .v3b_2 => uopCode 4 3
  | .v3c_2 => uopCode 4 4
  | .v7_1 => uopCode 5 0
  | .v4_2 => uopCode 5 1
  | .v1_4 => uopCode 5 2
  | .v8_1 => uopCode 6 0
  | .v5_2 => uopCode 6 1
  | .v2_3 => uopCode 6 2
  | .v9_1 => uopCode 7 0
  | .v6_2 => uopCode 7 1
  | .v3a_3 => uopCode 7 2
  | .v3b_3 => uopCode 7 3
  | .v3c_3 => uopCode 7 4
  | .v7_2 => uopCode 8 0
  | .v4_3 => uopCode 8 1
  | .v1_5 => uopCode 8 2
  | .v8_2 => uopCode 9 0
  | .v5_3 => uopCode 9 1
  | .v2_4 => uopCode 9 2
  | .v9_2 => uopCode 10 0
  | .v6_3 => uopCode 10 1
  | .v3a_4 => uopCode 10 2
  | .v3b_4 => uopCode 10 3
  | .v3c_4 => uopCode 10 4
  | .v7_3 => uopCode 11 0
  | .v4_4 => uopCode 11 1
  | .v1_6 => uopCode 11 2
  | .v8_3 => uopCode 12 0
  | .v5_4 => uopCode 12 1
  | .v2_5 => uopCode 12 2
  | .v9_3 => uopCode 13 0
  | .v6_4 => uopCode 13 1
  | .v3a_5 => uopCode 13 2
  | .v3b_5 => uopCode 13 3
  | .v3c_5 => uopCode 13 4
  | .v7_4 => uopCode 14 0
  | .v4_5 => uopCode 14 1
  | .v1_7 => uopCode 14 2
  | .v8_4 => uopCode 15 0
  | .v5_5 => uopCode 15 1
  | .v2_6 => uopCode 15 2
  | .v9_4 => uopCode 16 0
  | .v6_5 => uopCode 16 1
  | .v3a_6 => uopCode 16 2
  | .v3b_6 => uopCode 16 3
  | .v3c_6 => uopCode 16 4
  | .v1_0 => uopCode 17 0
  | .v7_5 => uopCode 17 1
  | .v4_6 => uopCode 17 2
  | .v8_5 => uopCode 18 0
  | .v5_6 => uopCode 18 1
  | .v2_7 => uopCode 18 2
  | .v9_5 => uopCode 19 0
  | .v6_6 => uopCode 19 1
  | .v3a_7 => uopCode 19 2
  | .v3b_7 => uopCode 19 3
  | .v3c_7 => uopCode 19 4
  | .v1_1 => uopCode 20 0
  | .v7_6 => uopCode 20 1
  | .v4_7 => uopCode 20 2
  | .v8_6 => uopCode 21 0
  | .v5_7 => uopCode 21 1
  | .v2_0 => uopCode 21 2
  | .v3a_0 => uopCode 22 0
  | .v9_6 => uopCode 22 1
  | .v6_7 => uopCode 22 2
  | .e22 => uopCode 22 3
  | .v7_7 => uopCode 23 0
  | .e23 => uopCode 23 1
  | .v8_7 => uopCode 24 0
  | .e24 => uopCode 24 1
  | .v3b_0 => uopCode 25 0
  | .v9_7 => uopCode 25 1
  | .e25 => uopCode 25 2
  | .e26 => uopCode 26 0
  | .m27 => uopCode 27 0
  | .e27 => uopCode 27 1
  | .m28 => uopCode 28 0
  | .e28 => uopCode 28 1
  | .m29 => uopCode 29 0
  | .e29 => uopCode 29 1
  | .m30 => uopCode 30 0
  | .v3c_0 => uopCode 30 1
  | .e30 => uopCode 30 2
  | .v4_0 => uopCode 31 0
  | .v1_2 => uopCode 31 1
  | .writeReg addr data => some (.hcs, [0x57, BitVec.ofInt 8 addr, BitVec.ofInt 8 data])
  | .readReg addr => some (.hcs, [0x52, BitVec.ofInt 8 addr])
  | .aramWrite addr data => some (.hcs, [0x41, lowByte addr, highByte addr, data])
  | .aramRead addr => some (.hcs, [0x61, lowByte addr, highByte addr])
  | .run ticks => 
    some (.hcs, [0x4E, BitVec.ofInt 8 ticks, BitVec.ofInt 8 (ticks / 256), BitVec.ofInt 8 (ticks / 65536),
      BitVec.ofInt 8 (ticks / 16777216)])
  | .reset => some (.hcs, [0x5A])
  | .muteVoices mask => some (.hcs, [0x4D, BitVec.ofInt 8 mask])
  | .frames _ => none
  | .init => none
  | .pitch _ _ => none
  | .keyOn _ => none
  | .keyOff _ => none
  | .dirEnt _ _ _ _ => none
  | .brrBlock _ _ => none
  | .construct _ => none
  | .copyState _ => none
  | .resamplerConstruct _ => none
  | .push _ => none
  | .readSamples _ => none
  | .setTimeRatio _ => none
  | .getTimeRatio => none
  | .available => none
  | .clear => none
  | .resize _ => none
  | .cacheSilence => none
  | .voll v acc => raCode acc v 0
  | .volr v acc => raCode acc v 1
  | .pitchl v acc => raCode acc v 2
  | .pitchh v acc => raCode acc v 3
  | .srcn v acc => raCode acc v 4
  | .adsr1 v acc => raCode acc v 5
  | .adsr2 v acc => raCode acc v 6
  | .gain v acc => raCode acc v 7
  | .envx v acc => raCode acc v 8
  | .outx v acc => raCode acc v 9
  | .unusedA v acc => raCode acc v 10
  | .unusedB v acc => raCode acc v 11
  | .unusedE v acc => raCode acc v 14
  | .fir x acc => raCode acc x 15
  | .mvoll acc => raCode acc 0 12
  | .mvolr acc => raCode acc 1 12
  | .evoll acc => raCode acc 2 12
  | .evolr acc => raCode acc 3 12
  | .kon acc => raCode acc 4 12
  | .koff acc => raCode acc 5 12
  | .flg acc => raCode acc 6 12
  | .endx acc => raCode acc 7 12
  | .efb acc => raCode acc 0 13
  | .unused1D acc => raCode acc 1 13
  | .pmon acc => raCode acc 2 13
  | .non acc => raCode acc 3 13
  | .eon acc => raCode acc 4 13
  | .dir acc => raCode acc 5 13
  | .esa acc => raCode acc 6 13
  | .edl acc => raCode acc 7 13
  | .flgFields r m e n => some (.flg, [flgByte r m e n])
  | .adsr1Fields v e d a => some (.adsr1 v, [adsr1Byte e d a])
  | .adsr2Fields v l r => some (.adsr2 v, [adsr2Byte l r])
  | .gainDirect v level => some (.gain v, [gainDirectByte level])
  | .gainLinearDecrease v r => some (.gain v, [gainModeByte 0 r])
  | .gainExponentialDecrease v r => some (.gain v, [gainModeByte 1 r])
  | .gainLinearIncrease v r => some (.gain v, [gainModeByte 2 r])
  | .gainTwoSlopeIncrease v r => some (.gain v, [gainModeByte 3 r])
  | .pitchhFields v x p => some (.pitchh v, [pitchhByte x p])
  | .brrFilter0 v s l e => some (.brrFilter v, [brrHeaderByte s 0 l e])
  | .brrFilter1 v s l e => some (.brrFilter v, [brrHeaderByte s 1 l e])
  | .brrFilter2 v s l e => some (.brrFilter v, [brrHeaderByte s 2 l e])
  | .brrFilter3 v s l e => some (.brrFilter v, [brrHeaderByte s 3 l e])
  | .brrShiftValid v s f l e => some (.brrShift v, [brrHeaderByte s f l e])
  | .brrShiftInvalid v s f l e => some (.brrShift v, [brrHeaderByte (invalidShift s) f l e])
  | .brrTerminator v s f => some (.brrEnd v, [brrHeaderByte s f false true])
  | .brrEndLoop v s f => some (.brrEnd v, [brrHeaderByte s f true true])
  | .brrNotEnd v s f l => some (.brrEnd v, [brrHeaderByte s f l false])
  | .brrData v a b => some (.brrData v, [brrDataByte a b])
  | .directoryEntry v start loopAddr => some (.directoryEntry v, wordPairBytes start loopAddr)
  | .echoFrame left right => some (.echoFrame, wordPairBytes left right)
  | .outputPair left right => some (.outputPair, wordPairBytes left right)

/-- The core commands a pseudo-command expands to, in order (R128); nothing for an instruction that is no pseudo-command. -/
def expand : Instr → List Instr
  | .frames k => [.run (32 * k : Nat)]
  | .init => .reset :: ((List.range 128).map (fun a => Instr.writeReg a 0) ++ [.writeReg 0x6C 0x20])
  | .pitch v pppp => [.writeReg (16 * v.val + 2 : Nat) (lowByte pppp).toNat, .writeReg (16 * v.val + 3 : Nat) (highByte pppp).toNat]
  | .keyOn mm => [.writeReg 0x4C mm.toNat]
  | .keyOff mm => [.writeReg 0x5C mm.toNat]
  | .dirEnt pp nn ssss llll =>
    let base : Addr := BitVec.ofNat 16 (256 * pp.toNat + 4 * nn.toNat)
    [.aramWrite base (lowByte ssss), .aramWrite (base + 1) (highByte ssss),
     .aramWrite (base + 2) (lowByte llll), .aramWrite (base + 3) (highByte llll)]
  | .brrBlock aaaa block => (List.finRange 9).map (fun k => Instr.aramWrite (aaaa + BitVec.ofNat 16 k.val) block[k])
  | .ph0 | .ph1 | .ph2 | .ph3 | .ph4 | .ph5 | .ph6 | .ph7 | .ph8 | .ph9 | .ph10 | .ph11 | .ph12 | .ph13 | .ph14 | .ph15
  | .ph16 | .ph17 | .ph18 | .ph19 | .ph20 | .ph21 | .ph22 | .ph23 | .ph24 | .ph25 | .ph26 | .ph27 | .ph28 | .ph29 | .ph30
  | .ph31 | .v5_0 | .v2_1 | .v6_0 | .v3a_1 | .v3b_1 | .v3c_1 | .v7_0 | .v4_1 | .v1_3 | .v8_0 | .v5_1 | .v2_2 | .v9_0 | .v6_1
  | .v3a_2 | .v3b_2 | .v3c_2 | .v7_1 | .v4_2 | .v1_4 | .v8_1 | .v5_2 | .v2_3 | .v9_1 | .v6_2 | .v3a_3 | .v3b_3 | .v3c_3
  | .v7_2 | .v4_3 | .v1_5 | .v8_2 | .v5_3 | .v2_4 | .v9_2 | .v6_3 | .v3a_4 | .v3b_4 | .v3c_4 | .v7_3 | .v4_4 | .v1_6 | .v8_3
  | .v5_4 | .v2_5 | .v9_3 | .v6_4 | .v3a_5 | .v3b_5 | .v3c_5 | .v7_4 | .v4_5 | .v1_7 | .v8_4 | .v5_5 | .v2_6 | .v9_4 | .v6_5
  | .v3a_6 | .v3b_6 | .v3c_6 | .v1_0 | .v7_5 | .v4_6 | .v8_5 | .v5_6 | .v2_7 | .v9_5 | .v6_6 | .v3a_7 | .v3b_7 | .v3c_7
  | .v1_1 | .v7_6 | .v4_7 | .v8_6 | .v5_7 | .v2_0 | .v3a_0 | .v9_6 | .v6_7 | .e22 | .v7_7 | .e23 | .v8_7 | .e24 | .v3b_0
  | .v9_7 | .e25 | .e26 | .m27 | .e27 | .m28 | .e28 | .m29 | .e29 | .m30 | .v3c_0 | .e30 | .v4_0 | .v1_2 | .writeReg _ _
  | .readReg _ | .aramWrite _ _ | .aramRead _ | .run _ | .reset | .muteVoices _ | .construct _ | .copyState _
  | .resamplerConstruct _ | .push _ | .readSamples _ | .setTimeRatio _ | .getTimeRatio | .available | .clear | .resize _
  | .cacheSilence | .voll _ _ | .volr _ _ | .pitchl _ _ | .pitchh _ _ | .srcn _ _ | .adsr1 _ _ | .adsr2 _ _ | .gain _ _
  | .envx _ _ | .outx _ _ | .unusedA _ _ | .unusedB _ _ | .unusedE _ _ | .fir _ _ | .mvoll _ | .mvolr _ | .evoll _
  | .evolr _ | .kon _ | .koff _ | .flg _ | .endx _ | .efb _ | .unused1D _ | .pmon _ | .non _ | .eon _ | .dir _ | .esa _
  | .edl _ | .flgFields _ _ _ _ | .adsr1Fields _ _ _ _ | .adsr2Fields _ _ _ | .gainDirect _ _ | .gainLinearDecrease _ _
  | .gainExponentialDecrease _ _ | .gainLinearIncrease _ _ | .gainTwoSlopeIncrease _ _ | .pitchhFields _ _ _
  | .brrFilter0 _ _ _ _ | .brrFilter1 _ _ _ _ | .brrFilter2 _ _ _ _ | .brrFilter3 _ _ _ _ | .brrShiftValid _ _ _ _ _
  | .brrShiftInvalid _ _ _ _ _ | .brrTerminator _ _ _ | .brrEndLoop _ _ _ | .brrNotEnd _ _ _ _ | .brrData _ _ _
  | .directoryEntry _ _ _ | .echoFrame _ _ | .outputPair _ _ => []

/-- The bytes of a table word of `n` bytes, the first byte in the highest bits, as the opcode table numbers a row (98_reader.md;
entry 16). -/
def tableBytes : Nat → Nat → List Byte
  | 0, _ => []
  | n + 1, w => BitVec.ofNat 8 (w / 256 ^ n) :: tableBytes n w

/-- The bytes of a table word: its own bytes and, for a Host command whose operand the table gives no bits, zeros. -/
def paddedTableBytes (nbits w : Nat) : List Byte := tableBytes ((nbits + 7) / 8) w ++ List.replicate 4 0

/-- The formats in which a table word without a context is read, in this order (entry 16): several rows of the table share their
words, and the first format that takes the word gives its row. -/
def tableFormats : List Format := [.ph, .hcs, .ra .read, .gain 0]

/-- The instruction of a word that is exactly one word of a format. -/
def decodeWhole (f : Format) (bytes : List Byte) : Option Instr :=
  match decode f bytes with
  | .ok (i, []) => some i
  | _ => none

/-- The instruction the decoder reads from a word of the opcode table, numbered as the table numbers it. -/
def decodeTableWord (nbits w : Nat) : Option Instr :=
  match tableFormats.findSome? (fun f => decodeWhole f (tableBytes ((nbits + 7) / 8) w)) with
  | some i => some i
  | none =>
    match decodeHcs (paddedTableBytes nbits w) with
    | .ok (i, _) => some i
    | .error _ => none

end Sys2Proof
end

