-- ==== Sys2Proof/Config.lean ====
section
/-! DEFINITION. The configuration: the open parameters of 00_scope.md R6 that some rule reads. No operation changes them
(10_state.md R68). They are carried in the state (entry 4), so that a statement about every state holds for every value of
every parameter. The values the machine starts with are in Machine/Tables.lean and Machine/State.lean (entries 2, 3, 4). -/

namespace Sys2Proof

/-- The parameters P1, P2, P3, P4, P5, P11, P12 of R6. P6 (exact rationals, entry 28), P8 (an unbounded output, entry 21),
P9 (the operand of ResamplerConstruct) and P10 (the layout of a state copy, entry 9) are fixed by the model's types; no rule
reads P7 (entry 22). -/
structure Params where
  /-- P1 `GAUSS`: 512 non-negative integers below 2^11 (R251). -/
  gauss : Vector (BitVec 11) 512
  /-- P2 `RESET_IMAGE`: the power-on register image (R421). -/
  resetImage : Vector Byte 128
  /-- P3 `NOISE_TAPS`: the pair of bit numbers of the feedback (R291). -/
  noiseTaps : Fin 15 × Fin 15
  /-- P4 `NOISE_GATED` (R292). -/
  noiseGated : Bool
  /-- P5 `ATTACK_DONE_GE` (R273). -/
  attackDoneGe : Bool
  /-- P11 `HIDDEN_ENV_UNSIGNED` (R270). -/
  hiddenEnvUnsigned : Bool
  /-- P12 `VOLUME_PRODUCT_WRAP` (R316). -/
  volumeProductWrap : Bool
  deriving DecidableEq, Repr

/-- The one constraint the spec puts on P2 (R421): after a reset the DSP is silent, holds its voices and writes no ARAM. -/
abbrev Params.Wf (p : Params) : Prop :=
  p.resetImage[0x6C] &&& 0xE0#8 = 0xE0#8

/-- What a byte of ARAM that nothing has written reads as. DESIGN CHOICE, unsafe (entry 1): the spec leaves the contents of ARAM
to the Host (R422). -/
def Config.unlistedByte : Byte := 0#8

end Sys2Proof
end

