-- ==== Sys2Proof/Machine/HostOp.lean ====
section
/-! DEFINITION. Which instructions are steps of the Host (47_host_interface.md R360, R373; 46_output_resampler.md). -/

namespace Sys2Proof.Machine

/-- The Host's operations: those of R373, the pseudo-commands that expand to them (R128), the accesses to a named register (R111, R362,
R363; entry 13), and the operations of the resampler (46), the push of an output pair among them (R341). A row of the phase table, a
micro-op and a word of a data format are no operations of the Host: the DSP runs them inside a tick, and a tick inside a `Run` only
(R360). -/
def hostOperation : Instr → Bool
  | .writeReg _ _ | .readReg _ | .aramWrite _ _ | .aramRead _ | .run _ | .reset | .muteVoices _ | .frames _ | .init
  | .pitch _ _ | .keyOn _ | .keyOff _ | .dirEnt _ _ _ _ | .brrBlock _ _ | .construct _ | .copyState _ | .resamplerConstruct _
  | .push _ | .readSamples _ | .setTimeRatio _ | .getTimeRatio | .available | .clear | .resize _ | .cacheSilence | .voll _ _
  | .volr _ _ | .pitchl _ _ | .pitchh _ _ | .srcn _ _ | .adsr1 _ _ | .adsr2 _ _ | .gain _ _ | .envx _ _ | .outx _ _
  | .unusedA _ _ | .unusedB _ _ | .unusedE _ _ | .fir _ _ | .mvoll _ | .mvolr _ | .evoll _ | .evolr _ | .kon _ | .koff _
  | .flg _ | .endx _ | .efb _ | .unused1D _ | .pmon _ | .non _ | .eon _ | .dir _ | .esa _ | .edl _ | .outputPair _ _ => true
  | .ph0 | .ph1 | .ph2 | .ph3 | .ph4 | .ph5 | .ph6 | .ph7 | .ph8 | .ph9 | .ph10 | .ph11 | .ph12 | .ph13 | .ph14 | .ph15 | .ph16
  | .ph17 | .ph18 | .ph19 | .ph20 | .ph21 | .ph22 | .ph23 | .ph24 | .ph25 | .ph26 | .ph27 | .ph28 | .ph29 | .ph30 | .ph31
  | .v5_0 | .v2_1 | .v6_0 | .v3a_1 | .v3b_1 | .v3c_1 | .v7_0 | .v4_1 | .v1_3 | .v8_0 | .v5_1 | .v2_2 | .v9_0 | .v6_1 | .v3a_2
  | .v3b_2 | .v3c_2 | .v7_1 | .v4_2 | .v1_4 | .v8_1 | .v5_2 | .v2_3 | .v9_1 | .v6_2 | .v3a_3 | .v3b_3 | .v3c_3 | .v7_2 | .v4_3
  | .v1_5 | .v8_2 | .v5_3 | .v2_4 | .v9_2 | .v6_3 | .v3a_4 | .v3b_4 | .v3c_4 | .v7_3 | .v4_4 | .v1_6 | .v8_3 | .v5_4 | .v2_5
  | .v9_3 | .v6_4 | .v3a_5 | .v3b_5 | .v3c_5 | .v7_4 | .v4_5 | .v1_7 | .v8_4 | .v5_5 | .v2_6 | .v9_4 | .v6_5 | .v3a_6 | .v3b_6
  | .v3c_6 | .v1_0 | .v7_5 | .v4_6 | .v8_5 | .v5_6 | .v2_7 | .v9_5 | .v6_6 | .v3a_7 | .v3b_7 | .v3c_7 | .v1_1 | .v7_6 | .v4_7
  | .v8_6 | .v5_7 | .v2_0 | .v3a_0 | .v9_6 | .v6_7 | .e22 | .v7_7 | .e23 | .v8_7 | .e24 | .v3b_0 | .v9_7 | .e25 | .e26 | .m27
  | .e27 | .m28 | .e28 | .m29 | .e29 | .m30 | .v3c_0 | .e30 | .v4_0 | .v1_2 | .flgFields _ _ _ _ | .adsr1Fields _ _ _ _
  | .adsr2Fields _ _ _ | .gainDirect _ _ | .gainLinearDecrease _ _ | .gainExponentialDecrease _ _ | .gainLinearIncrease _ _
  | .gainTwoSlopeIncrease _ _ | .pitchhFields _ _ _ | .brrFilter0 _ _ _ _ | .brrFilter1 _ _ _ _ | .brrFilter2 _ _ _ _
  | .brrFilter3 _ _ _ _ | .brrShiftValid _ _ _ _ _ | .brrShiftInvalid _ _ _ _ _ | .brrTerminator _ _ _ | .brrEndLoop _ _ _
  | .brrNotEnd _ _ _ _ | .brrData _ _ _ | .directoryEntry _ _ _ | .echoFrame _ _ => false

/-- An operation of the Host. -/
abbrev HostOp := { i : Instr // hostOperation i = true }

end Sys2Proof.Machine
end

