-- ==== Sys2Proof/Machine/Tables.lean ====
section
/-! DEFINITION. The constant tables: the rate tables of 40_phase_scheduler.md R170, and the candidate values U1 and U2 of
93_implementation_defined.md for the parameters P1 and P2 (PRESUMED, unsafe: entries 2, 3). -/

namespace Sys2Proof.Machine

/-- `RATE_PERIOD` (R170), index = rate. -/
def ratePeriod : Vector Nat 32 :=
  #v[30721, 2048, 1536, 1280, 1024,  768,  640,  512,
       384,  320,  256,  192,  160,  128,   96,   80,
        64,   48,   40,   32,   24,   20,   16,   12,
        10,    8,    6,    5,    4,    3,    2,    1]

/-- `RATE_OFFSET` (R170), index = rate. -/
def rateOffset : Vector Nat 32 :=
  #v[   1,    0, 1040,  536,    0, 1040,  536,    0,
     1040,  536,    0, 1040,  536,    0, 1040,  536,
        0, 1040,  536,    0, 1040,  536,    0, 1040,
      536,    0, 1040,  536,    0, 1040,    0,    0]

/-- U1, entries 0 to 63. PRESUMED (entry 2). -/
def gaussPart0 : List (BitVec 11) :=
  [0, 0, 0, 0, 0, 0, 0, 0, 0, 0, 0, 0, 0, 0, 0, 0,
   1, 1, 1, 1, 1, 1, 1, 1, 1, 1, 1, 2, 2, 2, 2, 2,
   2, 2, 3, 3, 3, 3, 3, 4, 4, 4, 4, 4, 5, 5, 5, 5,
   6, 6, 6, 6, 7, 7, 7, 8, 8, 8, 9, 9, 9, 10, 10, 10]

/-- U1, entries 64 to 127. PRESUMED (entry 2). -/
def gaussPart1 : List (BitVec 11) :=
  [11, 11, 11, 12, 12, 13, 13, 14, 14, 15, 15, 15, 16, 16, 17, 17,
   18, 19, 19, 20, 20, 21, 21, 22, 23, 23, 24, 24, 25, 26, 27, 27,
   28, 29, 29, 30, 31, 32, 32, 33, 34, 35, 36, 36, 37, 38, 39, 40,
   41, 42, 43, 44, 45, 46, 47, 48, 49, 50, 51, 52, 53, 54, 55, 56]

/-- U1, entries 128 to 191. PRESUMED (entry 2). -/
def gaussPart2 : List (BitVec 11) :=
  [58, 59, 60, 61, 62, 64, 65, 66, 67, 69, 70, 71, 73, 74, 76, 77,
   78, 80, 81, 83, 84, 86, 87, 89, 90, 92, 94, 95, 97, 99, 100, 102,
   104, 106, 107, 109, 111, 113, 115, 117, 118, 120, 122, 124, 126, 128, 130, 132,
   134, 137, 139, 141, 143, 145, 147, 150, 152, 154, 156, 159, 161, 163, 166, 168]

/-- U1, entries 192 to 255. PRESUMED (entry 2). -/
def gaussPart3 : List (BitVec 11) :=
  [171, 173, 175, 178, 180, 183, 186, 188, 191, 193, 196, 199, 201, 204, 207, 210,
   212, 215, 218, 221, 224, 227, 230, 233, 236, 239, 242, 245, 248, 251, 254, 257,
   260, 263, 267, 270, 273, 276, 280, 283, 286, 290, 293, 297, 300, 304, 307, 311,
   314, 318, 321, 325, 328, 332, 336, 339, 343, 347, 351, 354, 358, 362, 366, 370]

/-- U1, entries 256 to 319. PRESUMED (entry 2). -/
def gaussPart4 : List (BitVec 11) :=
  [374, 378, 381, 385, 389, 393, 397, 401, 405, 410, 414, 418, 422, 426, 430, 434,
   439, 443, 447, 451, 456, 460, 464, 469, 473, 477, 482, 486, 491, 495, 499, 504,
   508, 513, 517, 522, 527, 531, 536, 540, 545, 550, 554, 559, 563, 568, 573, 577,
   582, 587, 592, 596, 601, 606, 611, 615, 620, 625, 630, 635, 640, 644, 649, 654]

/-- U1, entries 320 to 383. PRESUMED (entry 2). -/
def gaussPart5 : List (BitVec 11) :=
  [659, 664, 669, 674, 678, 683, 688, 693, 698, 703, 708, 713, 718, 723, 728, 732,
   737, 742, 747, 752, 757, 762, 767, 772, 777, 782, 787, 792, 797, 802, 806, 811,
   816, 821, 826, 831, 836, 841, 846, 851, 855, 860, 865, 870, 875, 880, 884, 889,
   894, 899, 904, 908, 913, 918, 923, 927, 932, 937, 941, 946, 951, 955, 960, 965]

/-- U1, entries 384 to 447. PRESUMED (entry 2). -/
def gaussPart6 : List (BitVec 11) :=
  [969, 974, 978, 983, 988, 992, 997, 1001, 1005, 1010, 1014, 1019, 1023, 1027, 1032, 1036,
   1040, 1045, 1049, 1053, 1057, 1061, 1066, 1070, 1074, 1078, 1082, 1086, 1090, 1094, 1098, 1102,
   1106, 1109, 1113, 1117, 1121, 1125, 1128, 1132, 1136, 1139, 1143, 1146, 1150, 1153, 1157, 1160,
   1164, 1167, 1170, 1174, 1177, 1180, 1183, 1186, 1190, 1193, 1196, 1199, 1202, 1205, 1207, 1210]

/-- U1, entries 448 to 511. PRESUMED (entry 2). -/
def gaussPart7 : List (BitVec 11) :=
  [1213, 1216, 1219, 1221, 1224, 1227, 1229, 1232, 1234, 1237, 1239, 1241, 1244, 1246, 1248, 1251,
   1253, 1255, 1257, 1259, 1261, 1263, 1265, 1267, 1269, 1270, 1272, 1274, 1275, 1277, 1279, 1280,
   1282, 1283, 1284, 1286, 1287, 1288, 1290, 1291, 1292, 1293, 1294, 1295, 1296, 1297, 1297, 1298,
   1299, 1300, 1300, 1301, 1302, 1302, 1303, 1303, 1303, 1304, 1304, 1304, 1304, 1304, 1305, 1305]

/-- U1, the candidate Gaussian table (93 U1). PRESUMED (entry 2). -/
def gaussU1 : Vector (BitVec 11) 512 :=
  ⟨(gaussPart0 ++ (gaussPart1 ++ (gaussPart2 ++ (gaussPart3 ++
    (gaussPart4 ++ (gaussPart5 ++ (gaussPart6 ++ gaussPart7))))))).toArray, by decide +kernel⟩

/-- U2, addresses 0x00 to 0x1F. PRESUMED (entry 3). -/
def resetPart0 : List Byte :=
  [0x45, 0x8B, 0x5A, 0x9A, 0xE4, 0x82, 0x1B, 0x78, 0x00, 0x00, 0xAA, 0x96, 0x89, 0x0E, 0xE0, 0x80,
   0x2A, 0x49, 0x3D, 0xBA, 0x14, 0xA0, 0xAC, 0xC5, 0x00, 0x00, 0x51, 0xBB, 0x9C, 0x4E, 0x7B, 0xFF]

/-- U2, addresses 0x20 to 0x3F. PRESUMED (entry 3). -/
def resetPart1 : List Byte :=
  [0xF4, 0xFD, 0x57, 0x32, 0x37, 0xD9, 0x42, 0x22, 0x00, 0x00, 0x5B, 0x3C, 0x9F, 0x1B, 0x87, 0x9A,
   0x6F, 0x27, 0xAF, 0x7B, 0xE5, 0x68, 0x0A, 0xD9, 0x00, 0x00, 0x9A, 0xC5, 0x9C, 0x4E, 0x7B, 0xFF]

/-- U2, addresses 0x40 to 0x5F. PRESUMED (entry 3). -/
def resetPart2 : List Byte :=
  [0xEA, 0x21, 0x78, 0x4F, 0xDD, 0xED, 0x24, 0x14, 0x00, 0x00, 0x77, 0xB1, 0xD1, 0x36, 0xC1, 0x67,
   0x52, 0x57, 0x46, 0x3D, 0x59, 0xF4, 0x87, 0xA4, 0x00, 0x00, 0x7E, 0x44, 0x9C, 0x4E, 0x7B, 0xFF]

/-- U2, addresses 0x60 to 0x7F. PRESUMED (entry 3). -/
def resetPart3 : List Byte :=
  [0x75, 0xF5, 0x06, 0x97, 0x10, 0xC3, 0x24, 0xBB, 0x00, 0x00, 0x7B, 0x7A, 0xE0, 0x60, 0x12, 0x0F,
   0xF7, 0x74, 0x1C, 0xE5, 0x39, 0x3D, 0x73, 0xC1, 0x00, 0x00, 0x7A, 0xB3, 0xFF, 0x4E, 0x7B, 0xFF]

/-- U2, the candidate power-on register image (93 U2). PRESUMED (entry 3). -/
def resetImageU2 : Vector Byte 128 :=
  ⟨(resetPart0 ++ (resetPart1 ++ (resetPart2 ++ resetPart3))).toArray, by decide +kernel⟩

/-- The parameters the machine starts with: the defaults of R6 where it gives one, U1 and U2 for P1 and P2. -/
def defaultParams : Params where
  gauss := gaussU1
  resetImage := resetImageU2
  noiseTaps := (14, 13)
  noiseGated := false
  attackDoneGe := true
  hiddenEnvUnsigned := false
  volumeProductWrap := false

end Sys2Proof.Machine
end

