-- ==== Sys2Proof/Machine/State.lean ====
section
/-! DEFINITION. The state of the machine: every piece of state 10_state.md gives it, as plain data, the two reason types of a
step that does not go on, and the machine right after reset (R70, R361). -/

namespace Sys2Proof.Machine

/-- A channel index: left is 0, right is 1 (R12). -/
inductive Chan where
  | left
  | right
  deriving DecidableEq, Repr

/-- ARAM: (address, byte) pairs in canonical form, addresses strictly rising and no entry equal to the unlisted byte (R66, R81). -/
abbrev Memory := List Host.Cell

/-- The canonical form of a memory, with every address inside the 64 KB (R81). -/
abbrev Memory.Wf (m : Memory) : Prop :=
  m.Pairwise (fun x y => x.1 < y.1) ∧ ∀ c ∈ m, c.2 ≠ Config.unlistedByte ∧ c.1 < 0x10000

/-- Four running values of one channel, oldest first (R67, R330). -/
structure History where
  a : Int
  b : Int
  c : Int
  d : Int
  deriving DecidableEq, Repr

/-- The output resampler (R67, R330). `rb_capacity` is the length of `buffer`. -/
structure Resampler where
  /-- `rb_buffer`. -/
  buffer : List Byte
  /-- `rb_start`. -/
  start : Nat
  /-- `rb_size`. -/
  size : Nat
  /-- `r_step`, the TimeRatio. -/
  step : Rat
  /-- `r_frac`. -/
  frac : Rat
  /-- `r_left[0..3]`. -/
  left : History
  /-- `r_right[0..3]`. -/
  right : History
  deriving DecidableEq, Repr

/-- The fault codes of R398. A code is what a refused Host operation returns; the system goes on (R390), so none of these stops
the machine (entry 7). F4 is raised by nothing and is `Fault.gainModeContract` below. -/
inductive FaultCode where
  /-- F1: `Run` of a negative count (R391). -/
  | invalidTicks
  /-- F2: `Construct` without a 64 KB ARAM (R392). -/
  | invalidAram
  /-- F3: a negative buffer size (R393). -/
  | negativeBufferSize
  /-- F5: a register address outside 0x00..0x7F, or data that is no byte (R394). -/
  | invalidRegisterAccess
  /-- F6: a time ratio that is not positive (R396). -/
  | invalidTimeRatio
  deriving DecidableEq, Repr

/-- What a Host operation returned to the Host (R127 "result reported", R390). -/
inductive HostResult where
  /-- `ReadReg` and the ARAM read. -/
  | byte (b : Byte)
  /-- `Push`: whether the bytes were stored. -/
  | accepted (ok : Bool)
  /-- `Read`: the samples delivered, interleaved left, right. -/
  | samples (xs : List Int)
  /-- `GetTimeRatio`. -/
  | ratio (q : Rat)
  /-- `Available`: a number of samples. -/
  | count (n : Int)
  /-- `CopyState` saving: the stream, which the Host keeps and may give to a load (R370, entry 9). -/
  | stream (d : Dsp)
  /-- The operation was refused with this code and had no effect (R390). -/
  | fault (code : FaultCode)
  deriving DecidableEq, Repr

/-- Reasons the machine stops with a fault. The spec gives it none: a tick is total and a fault of a Host operation is a result
(R5, R390). -/
inductive Fault where
  /-- F4 GainModeContract (R278, R395): raised by nothing, since the trigger set is empty. Safe. -/
  | gainModeContract
  deriving DecidableEq, Repr

/-- Reasons the machine refuses to go on. -/
inductive Refusal where
  /-- Raised by an arm of `exec` whose instruction has no meaning yet. Safe. -/
  | notModelled (mnemonic : String)
  /-- Raised by `step`: the Host-command stream is malformed, and the notation's decoder rejects it before any operation is
  issued (R127, entry 8). Safe. -/
  | malformedHostStream
  /-- Raised by `CopyState` load of a stream that breaks the invariants of R69, or the ranges R51, R54, R64 and R65 give, which the model
  adds to them: the spec gives a foreign stream no meaning (R370, 93 I8, entry 9). Safe. -/
  | foreignStateBytes
  deriving DecidableEq, Repr

/-- The state of the system: the DSP, the ARAM it borrows, its output, the resampler, and the Host's side of the interface. The
last three fields are the model's own (entries 6, 26). -/
structure State where
  /-- The configuration, which no step changes (R68). -/
  params : Params
  /-- The DSP (R20 to R65). -/
  dsp : Dsp
  /-- ARAM (R66). -/
  aram : Memory
  /-- R58: the emitted pairs, oldest first. -/
  out : List Stereo
  /-- R67. -/
  resampler : Resampler
  /-- Operations of the Host issued by name and not yet run, oldest first. Only a Host operation can stand here (R373). -/
  issued : List HostOp
  /-- The Host-command stream not yet consumed (R127). -/
  hostBytes : List Byte
  /-- What the Host operations returned, oldest first. -/
  results : List HostResult
  deriving DecidableEq, Repr

/-- (0, 0). -/
def Stereo.zero : Stereo := ⟨0, 0⟩

/-- A history of zeros (R338). -/
def History.zero : History := ⟨0, 0, 0, 0⟩

/-- A voice after `Reset` (R70). -/
def Voice.reset : Voice where
  buf := #v[0, 0, 0, 0, 0, 0, 0, 0, 0, 0, 0, 0]
  bufPos := 0
  interpPos := 0
  brrAddr := 0
  brrOffset := 1
  konDelay := 0
  envMode := .release
  env := 0
  hiddenEnv := 0
  tEnvxOut := 0

/-- The DSP after `Reset`, given the power-on image and the mute mask, which `Reset` leaves alone (R70, R420, R57). -/
def Dsp.reset (image : Vector Byte 128) (muteMask : Byte) : Dsp where
  regs := image
  phase := 0
  counter := 0
  everyOtherSample := true
  newKon := image[0x4C]
  kon := 0
  tKoff := 0
  noise := 0x4000
  echoHist := #v[.zero, .zero, .zero, .zero, .zero, .zero, .zero, .zero]
  echoHistPos := 0
  echoOffset := 0
  echoLength := 0
  tPmon := 0
  tNon := 0
  tEon := 0
  tDir := image[0x5D]
  tEsa := image[0x6D]
  tEchoEnabled := 0
  tSrcn := 0
  tDirAddr := 0
  tBrrNextAddr := 0
  tAdsr0 := 0
  tPitch := 0
  tBrrHeader := 0
  tBrrByte := 0
  tOutput := 0
  tLooped := 0
  tMainOut := .zero
  tEchoOut := .zero
  tEchoIn := .zero
  tEchoPtr := 0
  endxBuf := 0
  outxBuf := 0
  envxBuf := 0
  muteMask := muteMask
  sampleCount := 0
  voices := #v[.reset, .reset, .reset, .reset, .reset, .reset, .reset, .reset]

/-- A resampler of the given capacity, just constructed: empty, ratio 1, `r_frac` 1, history 0 (R331, R338, R423). -/
def Resampler.fresh (capacity : Nat) : Resampler where
  buffer := List.replicate capacity 0
  start := 0
  size := 0
  step := 1
  frac := 1
  left := .zero
  right := .zero

/-- The machine right after reset: a DSP constructed over an ARAM of zero bytes (R361, R420; entries 1, 12), with the default
parameters (entries 2, 3, 4), a resampler of capacity 0 (entry 11), and a Host that has issued nothing. -/
def State.reset : State where
  params := defaultParams
  dsp := Dsp.reset defaultParams.resetImage 0
  aram := []
  out := []
  resampler := Resampler.fresh 0
  issued := []
  hostBytes := []
  results := []

end Sys2Proof.Machine
end

