-- ==== Sys2Proof/Machine/Operands.lean ====
section
/-! DEFINITION. Casts, clamps and shifts (00_scope.md R8 to R10), and every operand the micro-ops decode from a register byte, a
BRR word or an echo word, with its extension or scaling (30_encoding.md R110 to R125). -/

namespace Sys2Proof.Machine

/-- `sext_8` (R8): the value in -128..127 of a byte. -/
def sext8 (b : Byte) : Int := b.toInt

/-- `sext_16` (R8): the value in -32768..32767 congruent to `x` modulo 65536; a wrap. -/
def sext16 (x : Int) : Int := (x + 32768) % 65536 - 32768

/-- `clamp16` (R9). -/
def clamp16 (x : Int) : Int := if x < -32768 then -32768 else if x > 32767 then 32767 else x

/-- `x >> n` (R10): the arithmetic shift, floor of `x / 2^n`. -/
def asr (x : Int) (n : Nat) : Int := x / 2 ^ n

/-- `x & ~1` (R10): the low bit cleared. -/
def clearLow (x : Int) : Int := x - x % 2

/-- The low byte of an integer: `zext_8` as a byte (R8). -/
def byteOfInt (x : Int) : Byte := BitVec.ofInt 8 x

/-- `sext_4` (R241): a nibble as -8..7. -/
def sext4 (n : Nat) : Int := if n < 8 then n else (n : Int) - 16

/-- `vol16` (R316): `clamp16`, or the wrap with parameter P12. -/
def vol16 (p : Params) (x : Int) : Int := if p.volumeProductWrap then sext16 x else clamp16 x

/-- The address of register `r` of voice `v`: `v*0x10 + r` (R7, R21). -/
def vreg (v : VoiceId) (r : Fin 16) : RegAddr := ⟨16 * v.val + r.val, by omega⟩

/-- The address of FIR coefficient `i`: `0x0F + 0x10*i` (R44). -/
def firReg (i : Fin 8) : RegAddr := vreg i 15

/-- A channel of a pair (R12). -/
def Stereo.get (s : Stereo) : Chan → Int
  | .left => s.l
  | .right => s.r

/-- A pair with one channel replaced (R12). -/
def Stereo.set (s : Stereo) (ch : Chan) (x : Int) : Stereo :=
  match ch with
  | .left => { s with l := x }
  | .right => { s with r := x }

/-- VOLL for the left channel, VOLR for the right (R22, R215). -/
def volReg (v : VoiceId) : Chan → RegAddr
  | .left => vreg v 0
  | .right => vreg v 1

/-- MVOLL, MVOLR (R31, R307). -/
def mvolReg : Chan → RegAddr
  | .left => 0x0C
  | .right => 0x1C

/-- EVOLL, EVOLR (R32, R307). -/
def evolReg : Chan → RegAddr
  | .left => 0x2C
  | .right => 0x3C

/-- FLG bit 7, the soft reset (R112). -/
def flgReset (flg : Byte) : Bool := bitOf flg 7

/-- FLG bit 6, the mute (R112). -/
def flgMute (flg : Byte) : Bool := bitOf flg 6

/-- FLG bit 5, the echo-write disable (R112). -/
def flgEchoOff (flg : Byte) : Bool := bitOf flg 5

/-- FLG bits 4..0, the noise clock (R112). -/
def flgNoiseRate (flg : Byte) : Fin 32 := ⟨flg.toNat % 32, by omega⟩

/-- ADSR1 bit 7: ADSR mode (R113). -/
def adsrEnabled (adsr1 : Byte) : Bool := bitOf adsr1 7

/-- The attack rate index `AR*2 + 1` (R113). -/
def attackRate (adsr1 : Byte) : Fin 32 := ⟨adsr1.toNat % 16 * 2 + 1, by omega⟩

/-- The decay rate index `DR*2 + 16` (R113). -/
def decayRate (adsr1 : Byte) : Fin 32 := ⟨adsr1.toNat / 16 % 8 * 2 + 16, by omega⟩

/-- The rate index in bits 4..0 of ADSR2 or GAIN (R114, R115). -/
def lowRate (b : Byte) : Fin 32 := ⟨b.toNat % 32, by omega⟩

/-- Bits 7..5 of ADSR2 or GAIN: the sustain level or the gain mode (R114, R271). -/
def topField (b : Byte) : Nat := b.toNat / 32

/-- The direct gain level, `GAIN[6:0] * 16` (R266). -/
def directLevel (gain : Byte) : Int := (gain.toNat % 128 : Nat) * 16

/-- The pitch bits of PITCHH, in place: `(PITCHH & 0x3F) << 8` (R116). -/
def pitchHigh (b : Byte) : Int := (b.toNat % 64 : Nat) * 256

/-- The echo length of EDL: `EDL[3:0] * 0x800` (R43). -/
def echoLengthOf (edl : Byte) : Nat := edl.toNat % 16 * 0x800

/-- BRR header bits 7..4, the shift (R121). -/
def headerShift (h : Byte) : Nat := h.toNat / 16

/-- BRR header bits 3..2, the filter (R121). -/
def headerFilter (h : Byte) : Nat := h.toNat / 4 % 4

/-- Nibble `k` of a group of two data bytes, the high nibble of the first byte first (R122, R240). -/
def groupNibble (first second : Byte) (k : Fin 4) : Nat :=
  match k with
  | 0 => first.toNat / 16
  | 1 => first.toNat % 16
  | 2 => second.toNat / 16
  | 3 => second.toNat % 16

/-- `Scale` (R242, R243): the shift 0..12, or the invalid range. -/
def scale (s : Int) (shift : Nat) : Int :=
  if shift ≤ 12 then asr (s * 2 ^ shift) 1 else if s < 0 then -0x800 else 0

/-- `Predict` (R244 to R247): the four prediction filters. -/
def predict (filter : Nat) (p1 p2 : Int) : Int :=
  match filter with
  | 0 => 0
  | 1 => asr p1 1 + asr (-p1) 5
  | 2 => p1 - p2 + asr p2 4 + asr (p1 * -3) 6
  | _ => p1 - p2 + asr (p1 * -13) 7 + asr (p2 * 3) 4

/-- An echo word as it enters the history: `sext_16(w) >> 1` (R302). -/
def halved (w : BitVec 16) : Int := asr w.toInt 1

end Sys2Proof.Machine
end

