-- ==== Sys2Proof/Machine/Flags.lean ====
section
/-! DEFINITION. The masks, status bits and conditions the micro-ops test and set: voice bits (R118), the end flags (R121, R213,
R216), the rate counter's fire (R169, R274), the flags of an envelope candidate (R271, R273). -/

namespace Sys2Proof.Machine

/-- `vbit(v) = 1 << v` (R7). -/
def vbit (v : VoiceId) : Byte := 1#8 <<< v.val

/-- Whether bit `v` of a voice mask is set (R118). -/
def hasBit (mask : Byte) (v : VoiceId) : Bool := bitOf mask v.val

/-- The end flag of a BRR header (R121). -/
def headerEnd (h : Byte) : Bool := bitOf h 0

/-- The invalid BRR terminator: end flag set, loop flag clear (R209). -/
def headerTerminates (h : Byte) : Bool := h.toNat % 4 == 1

/-- What V5 stages for ENDX: the register or the bit of a voice that passed an end-flagged block, less the bit of a voice that was
just keyed on (R216). -/
def stageEndx (endx looped : Byte) (konDelay : Nat) (v : VoiceId) : Byte :=
  if konDelay = 5 then (endx ||| looped) &&& ~~~(vbit v) else endx ||| looped

/-- `RunCounter` (R168). -/
def runCounter (counter : Nat) : Nat := if counter = 0 then 30719 else counter - 1

/-- `ReadCounter` (R169). -/
def readCounter (counter : Nat) (rate : Fin 32) : Nat := (counter + rateOffset[rate]) % ratePeriod[rate]

/-- A fire: `ReadCounter(rate) = 0` (R169, R274). -/
def fires (counter : Nat) (rate : Fin 32) : Bool := readCounter counter rate == 0

/-- SustainCheck (R271): Decay ends when the candidate's top bits equal the field of ADSR2 or GAIN. -/
def sustainCheck (mode : EnvMode) (candidate : Int) (envData : Byte) : EnvMode :=
  if mode = .decay ∧ asr candidate 8 = topField envData then .sustain else mode

/-- Whether the candidate has reached the top (R273; parameter P5). -/
def overTop (p : Params) (candidate : Int) : Bool :=
  if p.attackDoneGe then decide (candidate ≥ 0x7FF) else decide (candidate > 0x7FF)

/-- The end of Attack (R273): at the top, or below 0. -/
def attackEnd (p : Params) (mode : EnvMode) (candidate : Int) : EnvMode :=
  if mode = .attack ∧ (overTop p candidate = true ∨ candidate < 0) then .decay else mode

/-- The clamp of R273: 0..0x7FF. -/
def clampLevel (candidate : Int) : Int :=
  if candidate < 0 then 0 else if candidate > 0x7FF then 0x7FF else candidate

end Sys2Proof.Machine
end

