-- ==== Sys2Proof/Machine/Ops.lean ====
section
/-! DEFINITION. The named operations over memory, registers, voices and the Host's results, and the one way a Host operation
faults. Everything else is written over these. -/

namespace Sys2Proof.Machine

/-- The outcome of an instruction. -/
abbrev Result := Host.Outcome State Fault Refusal

/-- One byte of memory (R11, R81). -/
def Memory.read : Memory → Nat → Byte
  | [], _ => Config.unlistedByte
  | c :: m, a => if c.1 = a then c.2 else Memory.read m a

/-- A byte put before a canonical memory, or left out when it is what an unlisted byte reads as. -/
def Memory.cons (a : Nat) (b : Byte) (m : Memory) : Memory :=
  if b = Config.unlistedByte then m else (a, b) :: m

/-- One byte stored: exactly the addressed byte changes (R81), and the canonical form is kept. -/
def Memory.write : Memory → Nat → Byte → Memory
  | [], a, b => Memory.cons a b []
  | c :: m, a, b =>
    if a < c.1 then Memory.cons a b (c :: m)
    else if a = c.1 then Memory.cons a b m
    else c :: Memory.write m a b

/-- `MemRead(addr, 1)` (R11). -/
def memRead (m : Memory) (a : Addr) : Byte := Memory.read m a.toNat

/-- `MemRead(addr, 2)`: little-endian, each byte address wrapped by itself (R11, R85). -/
def memReadWord (m : Memory) (a : Addr) : BitVec 16 := wordOfBytes (memRead m a) (memRead m (a + 1))

/-- `MemWrite(addr, 1, b)` (R11). -/
def memWrite (m : Memory) (a : Addr) (b : Byte) : Memory := Memory.write m a.toNat b

/-- `MemWrite(addr, 2, w)`: the low byte at the address, the high byte after it (R11, R82). -/
def memWriteWord (m : Memory) (a : Addr) (w : Int) : Memory :=
  memWrite (memWrite m a (byteOfInt w)) (a + 1) (byteOfInt (asr w 8))

/-- The memory a list of cells describes: each written in turn, addresses modulo 0x10000 (R11, R361; entry 30). -/
def memOfCells (cells : List Host.Cell) : Memory :=
  cells.foldl (fun m c => memWrite m (BitVec.ofNat 16 c.1) c.2) []

/-- `regs[a]` (R7). -/
def Dsp.reg (d : Dsp) (a : RegAddr) : Byte := d.regs[a]

/-- `regs[a] <- b` (R7). -/
def Dsp.setReg (d : Dsp) (a : RegAddr) (b : Byte) : Dsp := { d with regs := d.regs.set a b }

/-- The state of voice `v`. -/
def Dsp.voice (d : Dsp) (v : VoiceId) : Voice := d.voices[v]

/-- The state of voice `v` replaced. -/
def Dsp.setVoice (d : Dsp) (v : VoiceId) (x : Voice) : Dsp := { d with voices := d.voices.set v x }

/-- The DSP's state replaced through a function. -/
def State.mapDsp (s : State) (f : Dsp → Dsp) : State := { s with dsp := f s.dsp }

/-- What a Host operation returns is reported to the Host (R127, R390). -/
def State.report (s : State) (r : HostResult) : State := { s with results := s.results ++ [r] }

/-- `raise Fault(code)` (R11, R390, R397): the operation has no effect at all, the code is returned to the Host in place of a result,
and the system goes on from the unchanged state. There is no trap to return from: the return is the Host's next operation (R402). -/
def raiseFault (code : FaultCode) (s : State) : Result := .next (s.report (.fault code))

/-- The effect of a register write (R362): the byte is stored; ENVX and OUTX also load the staging buffers (R366), KON loads the
pending mask (R364), and ENDX is cleared whatever is written (R365). -/
def Dsp.writeRegister (d : Dsp) (a : RegAddr) (b : Byte) : Dsp :=
  let d1 := d.setReg a b
  let d2 := if a.val % 16 = 8 then { d1 with envxBuf := b } else d1
  let d3 := if a.val % 16 = 9 then { d2 with outxBuf := b } else d2
  let d4 := if a.val = 0x4C then { d3 with newKon := b } else d3
  if a.val = 0x7C then { d4 with endxBuf := 0 }.setReg 0x7C 0 else d4

/-- The Host's access to a register: `ReadReg` reports the byte and changes nothing (R363), `WriteReg` has the effect above. -/
def accessRegister (a : RegAddr) (acc : RegAccess) (s : State) : State :=
  match acc with
  | .read => s.report (.byte (s.dsp.reg a))
  | .write b => s.mapDsp (fun d => d.writeRegister a b)

/-- `Reset()` (R420): the DSP's state and its output; ARAM, the mute mask, the resampler and the parameters stay. -/
def resetDsp (s : State) : State :=
  { s with dsp := Dsp.reset s.params.resetImage s.dsp.muteMask, out := [] }

end Sys2Proof.Machine
end

