-- ==== Sys2Proof/Machine/Resampler.lean ====
section
/-! DEFINITION. The output resampler's operations (46_output_resampler.md R330 to R342), in exact rationals (parameter P6,
entry 28). `rb_capacity` is the length of the buffer. -/

namespace Sys2Proof.Machine

/-- `Clear()` (R338). -/
def Resampler.clear (r : Resampler) : Resampler :=
  { r with
    buffer := List.replicate r.buffer.length 0
    start := 0
    size := 0
    frac := 1
    left := .zero
    right := .zero }

/-- `Resize(sizeBytes)` for a size that is not negative (R339). -/
def Resampler.resize (size : Nat) (r : Resampler) : Resampler := { r with buffer := List.replicate size 0 }.clear

/-- `SetTimeRatio(ratio)` for a positive ratio (R335). -/
def Resampler.setRatio (ratio : Rat) (r : Resampler) : Resampler := { r with step := ratio }.clear

/-- `CacheSilence()` (R340). -/
def Resampler.cacheSilence (r : Resampler) : Resampler := { r.clear with size := r.buffer.length }

/-- Bytes stored one after another from index `pos`, each index modulo the capacity (R332). -/
def storeBytes (buffer : List Byte) (pos : Nat) : List Byte → List Byte
  | [] => buffer
  | b :: bytes => storeBytes (buffer.set (pos % buffer.length) b) (pos + 1) bytes

/-- Whether `Push` has room (R332). -/
def Resampler.fits (r : Resampler) (bytes : List Byte) : Bool := decide (bytes.length + r.size ≤ r.buffer.length)

/-- `Push(bytes)` (R332): stored whole, or not at all. -/
def Resampler.push (bytes : List Byte) (r : Resampler) : Resampler :=
  if r.fits bytes then
    { r with buffer := storeBytes r.buffer (r.start + r.size) bytes, size := r.size + bytes.length }
  else r

/-- `trunc`: toward zero (R334). -/
def truncate (q : Rat) : Int := q.num.tdiv q.den

/-- The 4-point cubic Hermite kernel before the truncation (R334). -/
def hermiteValue (mu : Rat) (h : History) : Rat :=
  let m0 : Rat := ((h.c - h.a : Int) : Rat) / 2
  let m1 : Rat := ((h.d - h.b : Int) : Rat) / 2
  let mu2 := mu * mu
  let mu3 := mu2 * mu
  (2 * mu3 - 3 * mu2 + 1) * (h.b : Rat) + (mu3 - 2 * mu2 + mu) * m0 + (mu3 - mu2) * m1 + (3 * mu2 - 2 * mu3) * (h.c : Rat)

/-- `Hermite(mu, h)` (R334). -/
def hermite (mu : Rat) (h : History) : Int := truncate (hermiteValue mu h)

/-- The byte `i` places after the oldest stored byte (R330). -/
def Resampler.byteAt (r : Resampler) (i : Nat) : Byte := r.buffer.getD ((r.start + i) % r.buffer.length) 0

/-- The oldest stored frame (R129, R333). -/
def Resampler.oldestFrame (r : Resampler) : Stereo :=
  ⟨(wordOfBytes (r.byteAt 0) (r.byteAt 1)).toInt, (wordOfBytes (r.byteAt 2) (r.byteAt 3)).toInt⟩

/-- A value entering a history (R333). -/
def History.shift (h : History) (x : Int) : History := ⟨h.b, h.c, h.d, x⟩

/-- One input frame consumed (R333). -/
def Resampler.pull (r : Resampler) : Resampler :=
  { r with
    left := r.left.shift r.oldestFrame.l
    right := r.right.shift r.oldestFrame.r
    frac := r.frac - 1
    start := (r.start + 4) % r.buffer.length
    size := r.size - 4 }

/-- One output frame at the current position (R333). -/
def Resampler.outputFrame (r : Resampler) : List Int := [clamp16 (hermite r.frac r.left), clamp16 (hermite r.frac r.right)]

/-- The inner loop of `Read`: output frames while `r_frac` is at most 1 and frames are wanted. The samples, the resampler after
them, and the frames still wanted (R333). -/
def Resampler.emit : Nat → Resampler → List Int × Resampler × Nat
  | 0, r => ([], r, 0)
  | want + 1, r =>
    if r.frac ≤ 1 then
      let (xs, r1, left) := Resampler.emit want { r with frac := r.frac + r.step }
      (r.outputFrame ++ xs, r1, left)
    else ([], r, want + 1)

/-- The outer loop of `Read`, over the whole frames stored: a pass that still wants frames has `r_frac` above 1 and consumes one
(R333). -/
def Resampler.readLoop : Nat → Nat → Resampler → List Int × Resampler
  | _, 0, r => ([], r)
  | 0, _ + 1, r => ([], r)
  | stored + 1, want + 1, r =>
    let (xs, r1, left) := Resampler.emit (want + 1) r
    if r1.frac ≤ 1 then (xs, r1)
    else
      let (ys, r2) := Resampler.readLoop stored left r1.pull
      (xs ++ ys, r2)

/-- The frames `Read(sampleCount)` wants: whole frames, none for a negative count (R333). -/
def framesWanted (sampleCount : Int) : Nat := sampleCount.toNat / 2

/-- `Read(sampleCount)` (R333): the samples and the resampler after it. -/
def Resampler.read (sampleCount : Int) (r : Resampler) : List Int × Resampler :=
  Resampler.readLoop (r.size / 4) (framesWanted sampleCount) r

/-- `Available()` (R337). -/
def Resampler.available (r : Resampler) : Int := max 0 ((((r.size / 4 : Nat) : Rat) - r.frac) / r.step).floor * 2

/-- `ResamplerConstruct(sizeBytes)` (R331; fault F3, R393). -/
def execResamplerConstruct (sizeBytes : Int) (s : State) : Result :=
  if sizeBytes < 0 then raiseFault .negativeBufferSize s
  else .next { s with resampler := Resampler.fresh sizeBytes.toNat }

/-- `Push(bytes)` (R332): its boolean is a status, not a fault (R400). -/
def execPush (bytes : List Byte) (s : State) : Result :=
  .next ({ s with resampler := s.resampler.push bytes }.report (.accepted (s.resampler.fits bytes)))

/-- `Read(sampleCount)` (R333). -/
def execReadSamples (sampleCount : Int) (s : State) : Result :=
  .next ({ s with resampler := (s.resampler.read sampleCount).2 }.report (.samples (s.resampler.read sampleCount).1))

/-- `SetTimeRatio(ratio)` (R335; fault F6, R396). -/
def execSetTimeRatio (ratio : Rat) (s : State) : Result :=
  if ratio ≤ 0 then raiseFault .invalidTimeRatio s
  else .next { s with resampler := s.resampler.setRatio ratio }

/-- `GetTimeRatio()` (R336). -/
def execGetTimeRatio (s : State) : Result := .next (s.report (.ratio s.resampler.step))

/-- `Available()` (R337). -/
def execAvailable (s : State) : Result := .next (s.report (.count s.resampler.available))

/-- `Clear()` (R338). -/
def execClear (s : State) : Result := .next { s with resampler := s.resampler.clear }

/-- `Resize(sizeBytes)` (R339; fault F3, R393). -/
def execResize (sizeBytes : Int) (s : State) : Result :=
  if sizeBytes < 0 then raiseFault .negativeBufferSize s
  else .next { s with resampler := s.resampler.resize sizeBytes.toNat }

/-- `CacheSilence()` (R340). -/
def execCacheSilence (s : State) : Result := .next { s with resampler := s.resampler.cacheSilence }

end Sys2Proof.Machine
end

