-- ==== Sys2Proof/Machine/Echo.lean ====
section
/-! DEFINITION. The echo micro-ops E22 to E30 (45_echo_fir.md R300 to R317). -/

namespace Sys2Proof.Machine

/-- The address of a channel's word of the current echo frame: `t_echo_ptr + 2*ch` (R123, R302). -/
def echoWordAddr (ptr : Addr) : Chan → Addr
  | .left => ptr
  | .right => ptr + 2

/-- `EchoRead(ch)` (R302): one word, halved, into the newest entry. -/
def echoRead (m : Memory) (ch : Chan) (d : Dsp) : Dsp :=
  { d with
    echoHist := d.echoHist.set d.echoHistPos
      (d.echoHist[d.echoHistPos].set ch (halved (memReadWord m (echoWordAddr d.tEchoPtr ch)))) }

/-- `CalcFir(i, ch)` (R303): tap `i` uses the entry `i + 1` places after the newest. -/
def calcFir (d : Dsp) (i : Fin 8) (ch : Chan) : Int :=
  asr ((d.echoHist[d.echoHistPos + i + 1].get ch) * sext8 (d.reg (firReg i))) 6

/-- A tap on both channels. -/
def firTap (d : Dsp) (i : Fin 8) : Stereo := ⟨calcFir d i .left, calcFir d i .right⟩

/-- The sum of two pairs, without a clamp: the FIR sum is a plain integer (R305). -/
def Stereo.add (x y : Stereo) : Stereo := ⟨x.l + y.l, x.r + y.r⟩

/-- E22 (R301). -/
def opE22 (m : Memory) (d : Dsp) : Dsp :=
  let d1 := echoRead m .left { d with
    echoHistPos := d.echoHistPos + 1
    tEchoPtr := BitVec.ofNat 16 (d.tEsa.toNat * 0x100 + d.echoOffset) }
  { d1 with tEchoIn := firTap d1 0 }

/-- E23 (R304): the right word is read after the taps. -/
def opE23 (m : Memory) (d : Dsp) : Dsp :=
  echoRead m .right { d with tEchoIn := (d.tEchoIn.add (firTap d 1)).add (firTap d 2) }

/-- E24 (R305). -/
def opE24 (d : Dsp) : Dsp :=
  { d with tEchoIn := ((d.tEchoIn.add (firTap d 3)).add (firTap d 4)).add (firTap d 5) }

/-- The last two taps on one channel: the wrap after seven taps, the clamp after the eighth (R306). -/
def lastTaps (sum tap6 tap7 : Int) : Int := clearLow (clamp16 (sext16 (sum + tap6) + sext16 tap7))

/-- E25 (R306). -/
def opE25 (d : Dsp) : Dsp :=
  { d with tEchoIn := ⟨lastTaps d.tEchoIn.l (calcFir d 6 .left) (calcFir d 7 .left),
                       lastTaps d.tEchoIn.r (calcFir d 6 .right) (calcFir d 7 .right)⟩ }

/-- `EchoOutput(ch)` (R307): the output mix of one channel. -/
def echoOutput (p : Params) (d : Dsp) (ch : Chan) : Int :=
  clamp16 (vol16 p (asr (d.tMainOut.get ch * sext8 (d.reg (mvolReg ch))) 7)
    + vol16 p (asr (d.tEchoIn.get ch * sext8 (d.reg (evolReg ch))) 7))

/-- The value to write back on one channel: the echo input plus the feedback (R308). -/
def feedback (p : Params) (d : Dsp) (ch : Chan) : Int :=
  clearLow (clamp16 (d.tEchoOut.get ch + vol16 p (asr (d.tEchoIn.get ch * sext8 (d.reg 0x0D)) 7)))

/-- E26 (R308): the left output, parked, and the feedback. -/
def opE26 (p : Params) (d : Dsp) : Dsp :=
  { d with
    tMainOut := d.tMainOut.set .left (echoOutput p d .left)
    tEchoOut := ⟨feedback p d .left, feedback p d .right⟩ }

/-- The pair E27 emits (R309): zero under FLG bit 6. -/
def emittedPair (p : Params) (d : Dsp) : Stereo :=
  if flgMute (d.reg 0x6C) then .zero else ⟨d.tMainOut.l, echoOutput p d .right⟩

/-- E27 (R309): one pair emitted, the main mix restarted. -/
def opE27 (s : State) : State :=
  { s with
    out := s.out ++ [emittedPair s.params s.dsp]
    dsp := { s.dsp with tMainOut := .zero, sampleCount := s.dsp.sampleCount + 1 } }

/-- E28 (R310). -/
def opE28 (d : Dsp) : Dsp := { d with tEchoEnabled := d.reg 0x6C }

/-- The echo length after E29: reloaded from EDL at offset 0 only (R311). -/
def nextEchoLength (d : Dsp) : Nat := if d.echoOffset = 0 then echoLengthOf (d.reg 0x7D) else d.echoLength

/-- E29's latch of ESA and EDL and its advance of the ring (R311). -/
def advanceEcho (d : Dsp) : Dsp :=
  { d with
    tEsa := d.reg 0x6D
    echoLength := nextEchoLength d
    echoOffset := if d.echoOffset + 4 ≥ nextEchoLength d then 0 else d.echoOffset + 4 }

/-- The ARAM after `EchoWrite(ch)` (R312): one word at the frame read this sample, unless the latched FLG bit 5 disables it. -/
def echoStore (ch : Chan) (d : Dsp) (m : Memory) : Memory :=
  if flgEchoOff d.tEchoEnabled then m else memWriteWord m (echoWordAddr d.tEchoPtr ch) (d.tEchoOut.get ch)

/-- `EchoWrite(ch)` (R312). -/
def echoWrite (ch : Chan) (s : State) : State :=
  { s with
    aram := echoStore ch s.dsp s.aram
    dsp := { s.dsp with tEchoOut := s.dsp.tEchoOut.set ch 0 } }

/-- E29 (R311): the left write uses the FLG of E28, and the right write the FLG of now. -/
def opE29 (s : State) : State :=
  (echoWrite .left (s.mapDsp advanceEcho)).mapDsp (fun d => { d with tEchoEnabled := d.reg 0x6C })

/-- E30 (R313). -/
def opE30 (s : State) : State := echoWrite .right s

end Sys2Proof.Machine
end

