-- ==== Sys2Proof/Machine/Brr.lean ====
section
/-! DEFINITION. The BRR decoder and the Gaussian interpolator (42_brr_gauss.md R240 to R251). -/

namespace Sys2Proof.Machine

/-- An index into the decode ring, modulo 12 (R59). -/
def ringIndex (n : Nat) : Fin 12 := ⟨n % 12, Nat.mod_lt n (by decide)⟩

/-- Sample `k` of a group: scaled, predicted from the two samples before it in the ring, clamped, doubled with a wrap and stored
(R240, R248). -/
def decodeSample (header first second : Byte) (pos : Nat) (buf : Vector Int 12) (k : Fin 4) : Vector Int 12 :=
  let s := scale (sext4 (groupNibble first second k)) (headerShift header)
  let p1 := buf[ringIndex (pos + k.val + 11)]
  let p2 := asr buf[ringIndex (pos + k.val + 10)] 1
  buf.set (ringIndex (pos + k.val)) (sext16 (clamp16 (s + predict (headerFilter header) p1 p2) * 2))

/-- The four samples of a group, in time order (R240). -/
def decodeFour (header first second : Byte) (pos : Nat) (buf : Vector Int 12) : Vector Int 12 :=
  (List.finRange 4).foldl (decodeSample header first second pos) buf

/-- `DecodeGroup(v)` (R240, R249): the next two data bytes of the voice's block, the first already in `tBrrByte`. -/
def decodeGroup (m : Memory) (v : VoiceId) (d : Dsp) : Dsp :=
  let x := d.voice v
  let second := memRead m (x.brrAddr + BitVec.ofNat 16 (x.brrOffset + 1))
  d.setVoice v { x with
    buf := decodeFour d.tBrrHeader d.tBrrByte second x.bufPos x.buf
    bufPos := (x.bufPos + 4) % 12 }

/-- `interp_pos[11:4]`, the high byte of the fraction (R250). -/
def fractionByte (interpPos : Int) : Fin 256 := ⟨(interpPos / 16 % 256).toNat, by omega⟩

/-- One tap: a table entry times a sample, shifted before it is added (R250). -/
def gaussTap (p : Params) (i : Fin 512) (sample : Int) : Int := asr ((p.gauss[i].toNat : Int) * sample) 11

/-- `Interpolate(v)` (R250): four taps, the sum of the first three wrapped, the fourth added, clamped, the low bit cleared. -/
def interpolate (p : Params) (x : Voice) : Int :=
  let off := fractionByte x.interpPos
  let base := (x.interpPos / 4096).toNat + x.bufPos
  let t0 := gaussTap p ⟨255 - off.val, by omega⟩ x.buf[ringIndex base]
  let t1 := gaussTap p ⟨511 - off.val, by omega⟩ x.buf[ringIndex (base + 1)]
  let t2 := gaussTap p ⟨256 + off.val, by omega⟩ x.buf[ringIndex (base + 2)]
  let t3 := gaussTap p ⟨off.val, by omega⟩ x.buf[ringIndex (base + 3)]
  clearLow (clamp16 (sext16 (t0 + t1 + t2) + t3))

end Sys2Proof.Machine
end

