-- ==== Sys2Proof/Machine/Envelope.lean ====
section
/-! DEFINITION. The envelope generator (43_envelope.md R260 to R278). A step gives the candidate level and the rate index that
gates its commit. -/

namespace Sys2Proof.Machine

/-- `ReleaseStep` (R262). -/
def releaseStep (env : Int) : Int := max (env - 8) 0

/-- The exponential step of Decay, Sustain and the exponential decrease (R264, R265, R268). -/
def exponentialStep (env : Int) : Int := env - 1 - asr (env - 1) 8

/-- `AttackStep` (R263). -/
def attackStep (adsr1 : Byte) (env : Int) : Int × Fin 32 :=
  (if attackRate adsr1 = 31 then env + 0x400 else env + 0x20, attackRate adsr1)

/-- `DecayStep` (R264). -/
def decayStep (adsr1 : Byte) (env : Int) : Int × Fin 32 := (exponentialStep env, decayRate adsr1)

/-- `SustainStep` (R265). -/
def sustainStep (adsr2 : Byte) (env : Int) : Int × Fin 32 := (exponentialStep env, lowRate adsr2)

/-- The direct gain (R266). -/
def gainDirectStep (gain : Byte) : Int × Fin 32 := (directLevel gain, 31)

/-- The linear decrease (R267). -/
def gainLinearDecreaseStep (gain : Byte) (env : Int) : Int × Fin 32 := (env - 0x20, lowRate gain)

/-- The exponential decrease (R268). -/
def gainExponentialDecreaseStep (gain : Byte) (env : Int) : Int × Fin 32 := (exponentialStep env, lowRate gain)

/-- The linear increase (R269). -/
def gainLinearIncreaseStep (gain : Byte) (env : Int) : Int × Fin 32 := (env + 0x20, lowRate gain)

/-- The two-slope increase (R270; parameter P11). -/
def gainTwoSlopeIncreaseStep (p : Params) (gain : Byte) (hiddenEnv env : Int) : Int × Fin 32 :=
  let h := if p.hiddenEnvUnsigned = true ∧ hiddenEnv < 0 then hiddenEnv + 2 ^ 32 else hiddenEnv
  (if h ≥ 0x600 then env + 0x8 else env + 0x20, lowRate gain)

/-- `GainStep` (R115, R266 to R270): the five modes cover the eight values of GAIN[7:5] (R278). -/
def gainStep (p : Params) (gain : Byte) (hiddenEnv env : Int) : Int × Fin 32 :=
  match topField gain with
  | 4 => gainLinearDecreaseStep gain env
  | 5 => gainExponentialDecreaseStep gain env
  | 6 => gainLinearIncreaseStep gain env
  | 7 => gainTwoSlopeIncreaseStep p gain hiddenEnv env
  | _ => gainDirectStep gain

/-- The step of a mode other than Release: the ADSR step of the mode on entry, or the gain step (R261). -/
def envelopeStep (p : Params) (adsr1 adsr2 gain : Byte) (x : Voice) : Int × Fin 32 :=
  if adsrEnabled adsr1 then
    match x.envMode with
    | .attack => attackStep adsr1 x.env
    | .decay => decayStep adsr1 x.env
    | .sustain => sustainStep adsr2 x.env
    | .release => (x.env, 0)
  else gainStep p gain x.hiddenEnv x.env

/-- What follows a step: the mode changes, whether or not the counter fires, and the gated commit (R271 to R274). -/
def settleEnvelope (p : Params) (counter : Nat) (envData : Byte) (step : Int × Fin 32) (x : Voice) : Voice :=
  { x with
    envMode := attackEnd p (sustainCheck x.envMode step.1 envData) step.1
    hiddenEnv := step.1
    env := if fires counter step.2 then clampLevel step.1 else x.env }

/-- `EnvelopeRun` on a voice, given the latched ADSR1 and the live ADSR2 and GAIN (R261). -/
def Voice.envelopeRun (p : Params) (counter : Nat) (adsr1 adsr2 gain : Byte) (x : Voice) : Voice :=
  if x.envMode = .release then { x with env := releaseStep x.env }
  else settleEnvelope p counter (if adsrEnabled adsr1 then adsr2 else gain) (envelopeStep p adsr1 adsr2 gain x) x

/-- `EnvelopeRun(v)` (R261). -/
def envelopeRun (p : Params) (v : VoiceId) (d : Dsp) : Dsp :=
  d.setVoice v ((d.voice v).envelopeRun p d.counter d.tAdsr0 (d.reg (vreg v 6)) (d.reg (vreg v 7)))

end Sys2Proof.Machine
end

