-- ==== Sys2Proof/Machine/Voice.lean ====
section
/-! DEFINITION. The voice micro-ops V1 to V9 (41_voice_pipeline.md R200 to R224). -/

namespace Sys2Proof.Machine

/-- V1(v) (R201): the directory address from the source number loaded by the previous V1, then SRCN of voice `v`. -/
def opV1 (v : VoiceId) (d : Dsp) : Dsp :=
  { d with tDirAddr := BitVec.ofNat 16 (d.tDir.toNat * 0x100 + d.tSrcn.toNat * 4), tSrcn := d.reg (vreg v 4) }

/-- The address V2 reads: the start word during the key-on sequence, else the loop word (R202). -/
def directoryWord (d : Dsp) (v : VoiceId) : Addr :=
  if (d.voice v).konDelay = 0 then d.tDirAddr + 2 else d.tDirAddr

/-- V2(v) (R202): the directory word, ADSR1 and the low pitch byte. -/
def opV2 (m : Memory) (v : VoiceId) (d : Dsp) : Dsp :=
  { d with
    tBrrNextAddr := memReadWord m (directoryWord d v)
    tAdsr0 := d.reg (vreg v 5)
    tPitch := (d.reg (vreg v 2)).toNat }

/-- V3a(v) (R203): the high pitch bits. -/
def opV3a (v : VoiceId) (d : Dsp) : Dsp := { d with tPitch := d.tPitch + pitchHigh (d.reg (vreg v 3)) }

/-- V3b(v) (R204): the first data byte and the header of the block. -/
def opV3b (m : Memory) (v : VoiceId) (d : Dsp) : Dsp :=
  { d with
    tBrrByte := memRead m ((d.voice v).brrAddr + BitVec.ofNat 16 (d.voice v).brrOffset)
    tBrrHeader := memRead m (d.voice v).brrAddr }

/-- `PitchMod(v)` (R206). -/
def pitchMod (v : VoiceId) (d : Dsp) : Dsp :=
  if hasBit d.tPmon v then { d with tPitch := d.tPitch + asr (asr d.tOutput 5 * d.tPitch) 10 } else d

/-- The voice at the first of the five samples of its key-on sequence: the new block (R207). -/
def Voice.startBlock (start : Addr) (x : Voice) : Voice :=
  { x with brrAddr := start, brrOffset := 1, bufPos := 0 }

/-- The values every sample of the key-on sequence forces (R207). -/
def Voice.holdKeyOn (x : Voice) : Voice :=
  { x with
    env := 0
    hiddenEnv := 0
    konDelay := x.konDelay - 1
    interpPos := if (x.konDelay - 1) % 4 ≠ 0 then 0x4000 else 0 }

/-- `KeyOnSeq(v)` (R207). -/
def keyOnSeq (v : VoiceId) (d : Dsp) : Dsp :=
  let x := d.voice v
  if x.konDelay = 0 then d
  else if x.konDelay = 5 then
    ({ d with tBrrHeader := 0, tPitch := 0 } : Dsp).setVoice v (x.startBlock d.tBrrNextAddr).holdKeyOn
  else ({ d with tPitch := 0 } : Dsp).setVoice v x.holdKeyOn

/-- The sample that replaces an interpolated one when NON is set (R293). -/
def noiseSample (noise : BitVec 15) : Int := sext16 (noise.toNat * 2)

/-- The sample before the envelope: interpolated, or the noise (R208, R293). -/
def rawSample (p : Params) (d : Dsp) (v : VoiceId) : Int :=
  if hasBit d.tNon v then noiseSample d.noise else interpolate p (d.voice v)

/-- A sample at an envelope level (R208). -/
def enveloped (output env : Int) : Int := clearLow (asr (output * env) 11)

/-- `Sample(v)` (R208). -/
def voiceSample (p : Params) (v : VoiceId) (d : Dsp) : Dsp :=
  ({ d with tOutput := enveloped (rawSample p d v) (d.voice v).env } : Dsp).setVoice v
    { d.voice v with tEnvxOut := byteOfInt (asr (d.voice v).env 4) }

/-- `ForceRelease(v)` (R209): FLG bit 7, or the invalid BRR terminator. -/
def forceRelease (v : VoiceId) (d : Dsp) : Dsp :=
  if flgReset (d.reg 0x6C) = true ∨ headerTerminates d.tBrrHeader = true then
    d.setVoice v { d.voice v with envMode := .release, env := 0 }
  else d

/-- `KeyLatch` on a voice: key-off, then key-on (R210). -/
def Voice.keyLatch (off on : Bool) (x : Voice) : Voice :=
  let x1 := if off then { x with envMode := .release } else x
  if on then { x1 with konDelay := 5, envMode := .attack } else x1

/-- `KeyLatch(v)` (R210): on latch samples only. -/
def keyLatch (v : VoiceId) (d : Dsp) : Dsp :=
  if d.everyOtherSample then d.setVoice v ((d.voice v).keyLatch (hasBit d.tKoff v) (hasBit d.kon v)) else d

/-- The envelope step at the end of V3c, outside the key-on sequence (R211). -/
def envelopeGate (p : Params) (v : VoiceId) (d : Dsp) : Dsp :=
  if (d.voice v).konDelay = 0 then envelopeRun p v d else d

/-- V3c(v) (R205): the six parts, in this order. -/
def opV3c (p : Params) (v : VoiceId) (d : Dsp) : Dsp :=
  envelopeGate p v (keyLatch v (forceRelease v (voiceSample p v (keyOnSeq v (pitchMod v d)))))

/-- `BlockAdvance(v)` (R213). -/
def blockAdvance (v : VoiceId) (d : Dsp) : Dsp :=
  let x := d.voice v
  if x.brrOffset + 2 ≥ 9 then
    if headerEnd d.tBrrHeader then
      ({ d with tLooped := vbit v } : Dsp).setVoice v { x with brrAddr := d.tBrrNextAddr, brrOffset := 1 }
    else d.setVoice v { x with brrAddr := x.brrAddr + 9, brrOffset := 1 }
  else d.setVoice v { x with brrOffset := x.brrOffset + 2 }

/-- The pitch accumulator after an advance (R214). -/
def advancePosition (interpPos pitch : Int) : Int :=
  if interpPos % 0x4000 + pitch > 0x7FFF then 0x7FFF else interpPos % 0x4000 + pitch

/-- `PitchAdvance(v)` (R214). -/
def pitchAdvance (v : VoiceId) (d : Dsp) : Dsp :=
  d.setVoice v { d.voice v with interpPos := advancePosition (d.voice v).interpPos d.tPitch }

/-- The contribution of voice `v` to a channel (R215, R368). -/
def amplitude (d : Dsp) (v : VoiceId) (ch : Chan) : Int :=
  if hasBit d.muteMask v then 0 else asr (d.tOutput * sext8 (d.reg (volReg v ch))) 7

/-- `VoiceOutput(v, ch)` (R215). -/
def voiceOutput (v : VoiceId) (ch : Chan) (d : Dsp) : Dsp :=
  { d with
    tMainOut := d.tMainOut.set ch (clamp16 (d.tMainOut.get ch + amplitude d v ch))
    tEchoOut := if hasBit d.tEon v then d.tEchoOut.set ch (clamp16 (d.tEchoOut.get ch + amplitude d v ch)) else d.tEchoOut }

/-- The decode of V4, when four samples have been consumed (R212). -/
def decodeIfDue (m : Memory) (v : VoiceId) (d : Dsp) : Dsp :=
  if (d.voice v).interpPos ≥ 0x4000 then blockAdvance v (decodeGroup m v d) else d

/-- V4(v) (R212). -/
def opV4 (m : Memory) (v : VoiceId) (d : Dsp) : Dsp :=
  voiceOutput v .left (pitchAdvance v (decodeIfDue m v { d with tLooped := 0 }))

/-- V5(v) (R216): the right mix, and the end flags staged. -/
def opV5 (v : VoiceId) (d : Dsp) : Dsp :=
  let d1 := voiceOutput v .right d
  { d1 with endxBuf := stageEndx (d1.reg 0x7C) d1.tLooped (d1.voice v).konDelay v }

/-- V6(v) (R217): OUTX staged. -/
def opV6 (_v : VoiceId) (d : Dsp) : Dsp := { d with outxBuf := byteOfInt (asr d.tOutput 8) }

/-- V7(v) (R218): ENDX published, ENVX staged. -/
def opV7 (v : VoiceId) (d : Dsp) : Dsp :=
  ({ d with envxBuf := (d.voice v).tEnvxOut } : Dsp).setReg 0x7C d.endxBuf

/-- V8(v) (R219): OUTX published. -/
def opV8 (v : VoiceId) (d : Dsp) : Dsp := d.setReg (vreg v 9) d.outxBuf

/-- V9(v) (R220): ENVX published. -/
def opV9 (v : VoiceId) (d : Dsp) : Dsp := d.setReg (vreg v 8) d.envxBuf

end Sys2Proof.Machine
end

