-- ==== Sys2Proof/Machine/Schedule.lean ====
section
/-! DEFINITION. The global micro-ops M27 to M30, the noise generator, the phase table and the tick (40_phase_scheduler.md R160 to
R174; 44_noise.md R290 to R294). -/

namespace Sys2Proof.Machine

/-- M27 (R164): bit 0 of PMON is dropped. -/
def opM27 (d : Dsp) : Dsp := { d with tPmon := d.reg 0x2D &&& 0xFE }

/-- M28 (R165). -/
def opM28 (d : Dsp) : Dsp := { d with tNon := d.reg 0x3D, tEon := d.reg 0x4D, tDir := d.reg 0x5D }

/-- M29 (R166): on a latch sample the pending requests shed the key-ons already given. -/
def opM29 (d : Dsp) : Dsp :=
  { d with
    everyOtherSample := !d.everyOtherSample
    newKon := if d.everyOtherSample then d.newKon else d.newKon &&& ~~~d.kon }

/-- One step of the noise register with taps `a` and `b` (R291). -/
def noiseNext (taps : Fin 15 × Fin 15) (noise : BitVec 15) : BitVec 15 :=
  let feedback := Nat.testBit noise.toNat taps.1.val ^^ Nat.testBit noise.toNat taps.2.val
  BitVec.ofNat 15 ((if feedback then 0x4000 else 0) + noise.toNat / 2)

/-- Whether the noise register steps this sample (R292; parameter P4). -/
def noiseDue (p : Params) (d : Dsp) : Bool := !p.noiseGated || fires d.counter (flgNoiseRate (d.reg 0x6C))

/-- `NoiseStep` (R291, R292). -/
def noiseStep (p : Params) (d : Dsp) : Dsp :=
  if noiseDue p d then { d with noise := noiseNext p.noiseTaps d.noise } else d

/-- The key masks loaded on a latch sample (R167). -/
def loadKeys (d : Dsp) : Dsp :=
  if d.everyOtherSample then { d with kon := d.newKon, tKoff := d.reg 0x5C } else d

/-- M30 (R167): the key latch, the counter, the noise. -/
def opM30 (p : Params) (d : Dsp) : Dsp :=
  let d1 := loadKeys d
  noiseStep p { d1 with counter := runCounter d1.counter }

/-- One micro-op of the phase table (R162). -/
def runMicroOp (op : MicroOp) (s : State) : State :=
  match op with
  | .v1 v => s.mapDsp (opV1 v)
  | .v2 v => s.mapDsp (opV2 s.aram v)
  | .v3a v => s.mapDsp (opV3a v)
  | .v3b v => s.mapDsp (opV3b s.aram v)
  | .v3c v => s.mapDsp (opV3c s.params v)
  | .v4 v => s.mapDsp (opV4 s.aram v)
  | .v5 v => s.mapDsp (opV5 v)
  | .v6 v => s.mapDsp (opV6 v)
  | .v7 v => s.mapDsp (opV7 v)
  | .v8 v => s.mapDsp (opV8 v)
  | .v9 v => s.mapDsp (opV9 v)
  | .e22 => s.mapDsp (opE22 s.aram)
  | .e23 => s.mapDsp (opE23 s.aram)
  | .e24 => s.mapDsp opE24
  | .e25 => s.mapDsp opE25
  | .e26 => s.mapDsp (opE26 s.params)
  | .e27 => opE27 s
  | .e28 => s.mapDsp opE28
  | .e29 => opE29 s
  | .e30 => opE30 s
  | .m27 => s.mapDsp opM27
  | .m28 => s.mapDsp opM28
  | .m29 => s.mapDsp opM29
  | .m30 => s.mapDsp (opM30 s.params)

/-- `TABLE` (R162): the micro-ops of each row in order. `V3(v)` is written as its three parts (R221). -/
def phaseTable : Vector (List MicroOp) 32 :=
  #v[[.v5 0, .v2 1],
     [.v6 0, .v3a 1, .v3b 1, .v3c 1],
     [.v7 0, .v4 1, .v1 3],
     [.v8 0, .v5 1, .v2 2],
     [.v9 0, .v6 1, .v3a 2, .v3b 2, .v3c 2],
     [.v7 1, .v4 2, .v1 4],
     [.v8 1, .v5 2, .v2 3],
     [.v9 1, .v6 2, .v3a 3, .v3b 3, .v3c 3],
     [.v7 2, .v4 3, .v1 5],
     [.v8 2, .v5 3, .v2 4],
     [.v9 2, .v6 3, .v3a 4, .v3b 4, .v3c 4],
     [.v7 3, .v4 4, .v1 6],
     [.v8 3, .v5 4, .v2 5],
     [.v9 3, .v6 4, .v3a 5, .v3b 5, .v3c 5],
     [.v7 4, .v4 5, .v1 7],
     [.v8 4, .v5 5, .v2 6],
     [.v9 4, .v6 5, .v3a 6, .v3b 6, .v3c 6],
     [.v1 0, .v7 5, .v4 6],
     [.v8 5, .v5 6, .v2 7],
     [.v9 5, .v6 6, .v3a 7, .v3b 7, .v3c 7],
     [.v1 1, .v7 6, .v4 7],
     [.v8 6, .v5 7, .v2 0],
     [.v3a 0, .v9 6, .v6 7, .e22],
     [.v7 7, .e23],
     [.v8 7, .e24],
     [.v3b 0, .v9 7, .e25],
     [.e26],
     [.m27, .e27],
     [.m28, .e28],
     [.m29, .e29],
     [.m30, .v3c 0, .e30],
     [.v4 0, .v1 2]]

/-- The micro-ops of a row, left to right (R161, R163). -/
def runRow (p : Fin 32) (s : State) : State := phaseTable[p].foldl (fun s op => runMicroOp op s) s

/-- The row `p` as the tick runs it: its micro-ops, then the phase after it, 31 wrapping to 0 (R161). -/
def phaseStep (p : Fin 32) (s : State) : State := (runRow p s).mapDsp (fun d => { d with phase := p + 1 })

/-- `Tick()` (R161). -/
def tick (s : State) : State := phaseStep s.dsp.phase s

/-- `n` ticks (R160). -/
def runTicks : Nat → State → State
  | 0, s => s
  | n + 1, s => runTicks n (tick s)

end Sys2Proof.Machine
end

