-- ==== Sys2Proof/Machine/Formats.lean ====
section
/-! DEFINITION. The byte formats of 30_encoding.md as instructions: the word is put where the unit that decodes it takes it, and
that unit's decoding step is done once (R110; entry 14). -/

namespace Sys2Proof.Machine

/-- A byte in the ADSR2 or GAIN register of a voice, and an envelope run on it (R114, R115, R261). -/
def envelopeWith (v : VoiceId) (r : Fin 16) (b : Byte) (s : State) : State :=
  s.mapDsp (fun d => envelopeRun s.params v (d.writeRegister (vreg v r) b))

/-- A header byte latched as V3b latches it, and a group decoded with it (R121, R240). -/
def decodeWith (v : VoiceId) (header : Byte) (s : State) : State :=
  s.mapDsp (fun d => decodeGroup s.aram v { d with tBrrHeader := header })

/-- A header byte latched as V3b latches it, and a block advance with it (R121, R213). -/
def advanceWith (v : VoiceId) (header : Byte) (s : State) : State :=
  s.mapDsp (fun d => blockAdvance v { d with tBrrHeader := header })

/-- FLG fields (R112): the byte goes to FLG, which is read live (R35). -/
def execFlgFields (r m e : Bool) (n : BitVec 5) (s : State) : Result :=
  .next (s.mapDsp (fun d => d.writeRegister 0x6C (flgByte r m e n)))

/-- ADSR1 fields (R113): the latch V2 fills, and an envelope run on it. -/
def execAdsr1Fields (v : VoiceId) (e : Bool) (d : BitVec 3) (a : BitVec 4) (s : State) : Result :=
  .next (s.mapDsp (fun x => envelopeRun s.params v { x with tAdsr0 := adsr1Byte e d a }))

/-- ADSR2 fields (R114). -/
def execAdsr2Fields (v : VoiceId) (l : BitVec 3) (r : BitVec 5) (s : State) : Result :=
  .next (envelopeWith v 6 (adsr2Byte l r) s)

/-- GAIN direct (R266). -/
def execGainDirect (v : VoiceId) (level : BitVec 7) (s : State) : Result := .next (envelopeWith v 7 (gainDirectByte level) s)

/-- GAIN linear decrease (R267). -/
def execGainLinearDecrease (v : VoiceId) (r : BitVec 5) (s : State) : Result := .next (envelopeWith v 7 (gainModeByte 0 r) s)

/-- GAIN exponential decrease (R268). -/
def execGainExponentialDecrease (v : VoiceId) (r : BitVec 5) (s : State) : Result :=
  .next (envelopeWith v 7 (gainModeByte 1 r) s)

/-- GAIN linear increase (R269). -/
def execGainLinearIncrease (v : VoiceId) (r : BitVec 5) (s : State) : Result := .next (envelopeWith v 7 (gainModeByte 2 r) s)

/-- GAIN two-slope increase (R270). -/
def execGainTwoSlopeIncrease (v : VoiceId) (r : BitVec 5) (s : State) : Result := .next (envelopeWith v 7 (gainModeByte 3 r) s)

/-- PITCHH fields (R116): the byte goes to PITCHH(v), and V3a takes it. -/
def execPitchhFields (v : VoiceId) (x : BitVec 2) (p : BitVec 6) (s : State) : Result :=
  .next (s.mapDsp (fun d => opV3a v (d.writeRegister (vreg v 3) (pitchhByte x p))))

/-- BRR header, filter 0 (R244). -/
def execBrrFilter0 (v : VoiceId) (sh : BitVec 4) (l e : Bool) (s : State) : Result := .next (decodeWith v (brrHeaderByte sh 0 l e) s)

/-- BRR header, filter 1 (R245). -/
def execBrrFilter1 (v : VoiceId) (sh : BitVec 4) (l e : Bool) (s : State) : Result := .next (decodeWith v (brrHeaderByte sh 1 l e) s)

/-- BRR header, filter 2 (R246). -/
def execBrrFilter2 (v : VoiceId) (sh : BitVec 4) (l e : Bool) (s : State) : Result := .next (decodeWith v (brrHeaderByte sh 2 l e) s)

/-- BRR header, filter 3 (R247). -/
def execBrrFilter3 (v : VoiceId) (sh : BitVec 4) (l e : Bool) (s : State) : Result := .next (decodeWith v (brrHeaderByte sh 3 l e) s)

/-- BRR header, shift 0 to 12 (R242). -/
def execBrrShiftValid (v : VoiceId) (sh : BitVec 4) (f : BitVec 2) (l e : Bool) (s : State) : Result :=
  .next (decodeWith v (brrHeaderByte sh f l e) s)

/-- BRR header, shift 13 to 15 (R243). -/
def execBrrShiftInvalid (v : VoiceId) (sh : BitVec 2) (f : BitVec 2) (l e : Bool) (s : State) : Result :=
  .next (decodeWith v (brrHeaderByte (invalidShift sh) f l e) s)

/-- BRR header, end without loop (R209): the terminator, and the forced release it causes. -/
def execBrrTerminator (v : VoiceId) (sh : BitVec 4) (f : BitVec 2) (s : State) : Result :=
  .next (s.mapDsp (fun d => forceRelease v { d with tBrrHeader := brrHeaderByte sh f false true }))

/-- BRR header, end and loop (R213). -/
def execBrrEndLoop (v : VoiceId) (sh : BitVec 4) (f : BitVec 2) (s : State) : Result :=
  .next (advanceWith v (brrHeaderByte sh f true true) s)

/-- BRR header, not the end (R213). -/
def execBrrNotEnd (v : VoiceId) (sh : BitVec 4) (f : BitVec 2) (l : Bool) (s : State) : Result :=
  .next (advanceWith v (brrHeaderByte sh f l false) s)

/-- BRR data byte (R122): the byte V3b latches, and a group decoded from it. -/
def execBrrData (v : VoiceId) (a b : BitVec 4) (s : State) : Result :=
  .next (s.mapDsp (fun d => decodeGroup s.aram v { d with tBrrByte := brrDataByte a b }))

/-- Directory entry (R119, R202): V2's choice between its two words. -/
def execDirectoryEntry (v : VoiceId) (start loopAddr : BitVec 16) (s : State) : Result :=
  .next (s.mapDsp (fun d => { d with tBrrNextAddr := if (d.voice v).konDelay = 0 then loopAddr else start }))

/-- Echo frame (R123, R302): both words, halved, in the newest entry. -/
def execEchoFrame (left right : BitVec 16) (s : State) : Result :=
  .next (s.mapDsp (fun d => { d with echoHist := d.echoHist.set d.echoHistPos ⟨halved left, halved right⟩ }))

/-- Output pair bytes (R129, R341): the pair pushed into the resampler. -/
def execOutputPair (left right : BitVec 16) (s : State) : Result :=
  .next ({ s with resampler := s.resampler.push (wordPairBytes left right) }.report
    (.accepted (s.resampler.fits (wordPairBytes left right))))

end Sys2Proof.Machine
end

