-- ==== Sys2Proof/Machine/Wf.lean ====
section
/-! DEFINITION. The invariants of 10_state.md R69, with the ranges R51, R54, R55, R60, R64, R65, R67, R330 and R342 give: what a state
must satisfy for its DSP to be one that `CopyState` can have saved (R370), and what every step keeps. -/

namespace Sys2Proof.Machine

/-- An even signed 16-bit value (R59, R54). -/
abbrev evenSample (x : Int) : Prop := x % 2 = 0 ∧ -32768 ≤ x ∧ x ≤ 32766

/-- A signed 16-bit value. -/
abbrev signed16 (x : Int) : Prop := -32768 ≤ x ∧ x ≤ 32767

/-- The invariants of one voice (R59 to R65). -/
abbrev Voice.Wf (x : Voice) : Prop :=
  (∀ i : Fin 12, evenSample x.buf[i]) ∧
  (x.bufPos = 0 ∨ x.bufPos = 4 ∨ x.bufPos = 8) ∧
  (0 ≤ x.interpPos ∧ x.interpPos ≤ 0x7FFF) ∧
  (x.brrOffset = 1 ∨ x.brrOffset = 3 ∨ x.brrOffset = 5 ∨ x.brrOffset = 7) ∧
  x.konDelay ≤ 5 ∧
  (0 ≤ x.env ∧ x.env ≤ 0x7FF) ∧
  (-0x20 ≤ x.hiddenEnv ∧ x.hiddenEnv ≤ 0xBFF) ∧
  x.tEnvxOut.toNat ≤ 0x7F

/-- An echo history entry: an echo word halved (R51). -/
abbrev halfSample (x : Int) : Prop := -16384 ≤ x ∧ x ≤ 16383

/-- The invariants of the DSP: R69's list, and the ranges R51 gives the echo history, R54 `t_pitch`, and R64 and R65 `hidden_env` and
`t_envx_out`, which R69 does not list. That a `CopyState` load is refused for a stream outside those four ranges too is the model's
choice (DESIGN CHOICE, entry 9): the spec leaves it open (R370, 93 I8). -/
abbrev Dsp.Wf (d : Dsp) : Prop :=
  d.counter < 30720 ∧
  (∀ i : Fin 8, halfSample d.echoHist[i].l ∧ halfSample d.echoHist[i].r) ∧
  d.echoOffset % 4 = 0 ∧
  (d.echoOffset < d.echoLength ∨ d.echoOffset = 0) ∧
  (d.echoLength % 0x800 = 0 ∧ d.echoLength ≤ 0x7800) ∧
  0 ≤ d.tPitch ∧
  evenSample d.tOutput ∧
  (signed16 d.tMainOut.l ∧ signed16 d.tMainOut.r) ∧
  (signed16 d.tEchoOut.l ∧ signed16 d.tEchoOut.r) ∧
  ∀ v : Fin 8, d.voices[v].Wf

/-- A history of signed 16-bit values (R330). -/
abbrev History.Wf (h : History) : Prop := signed16 h.a ∧ signed16 h.b ∧ signed16 h.c ∧ signed16 h.d

/-- The invariants of the resampler (R330, R335, R342). -/
abbrev Resampler.Wf (r : Resampler) : Prop :=
  r.size ≤ r.buffer.length ∧
  (r.start < r.buffer.length ∨ r.start = 0) ∧
  0 < r.step ∧
  (0 ≤ r.frac ∧ r.frac < 1 + r.step) ∧
  r.left.Wf ∧ r.right.Wf

end Sys2Proof.Machine
end

