-- ==== Sys2Proof/Machine/HostOps.lean ====
section
/-! DEFINITION. The Host's operations on the DSP (47_host_interface.md R360 to R376), `Run` (R160), `Reset` (R420), and the
pseudo-commands of R128. -/

namespace Sys2Proof.Machine

/-- A register access whose address and data are integers (R362, R363; fault F5, R394). -/
def hostRegister (addr : Int) (acc : RegAccess) (s : State) : Result :=
  if h : 0 ≤ addr ∧ addr < 128 then .next (accessRegister ⟨addr.toNat, by omega⟩ acc s)
  else raiseFault .invalidRegisterAccess s

/-- `WriteReg(addr, data)` (R362). -/
def execWriteReg (addr data : Int) (s : State) : Result :=
  if 0 ≤ data ∧ data < 256 then hostRegister addr (.write (byteOfInt data)) s else raiseFault .invalidRegisterAccess s

/-- `ReadReg(addr)` (R363). -/
def execReadReg (addr : Int) (s : State) : Result := hostRegister addr .read s

/-- One byte of ARAM written by the Host (R367). -/
def storeAram (a : Addr) (b : Byte) (s : State) : State := { s with aram := memWrite s.aram a b }

/-- The Host's ARAM write (R367). -/
def execAramWrite (a : Addr) (b : Byte) (s : State) : Result := .next (storeAram a b s)

/-- The Host's ARAM read (R367). -/
def execAramRead (a : Addr) (s : State) : Result := .next (s.report (.byte (memRead s.aram a)))

/-- `Run(ticks)` (R160; fault F1, R391): all its ticks are one step of the Host. -/
def execRun (ticks : Int) (s : State) : Result :=
  if ticks < 0 then raiseFault .invalidTicks s else .next (runTicks ticks.toNat s)

/-- `Reset()` (R420, R372). -/
def execReset (s : State) : Result := .next (resetDsp s)

/-- `MuteVoices(mask)` (R368): the low eight bits. -/
def execMuteVoices (mask : Int) (s : State) : Result := .next (s.mapDsp (fun d => { d with muteMask := byteOfInt mask }))

/-- `Construct(aram)` (R361; fault F2, R392): ARAM is bound, the mute mask cleared, the DSP reset. -/
def execConstruct (image : Option AramImage) (s : State) : Result :=
  match image with
  | none => raiseFault .invalidAram s
  | some a =>
    if a.size = 0x10000 then
      .next (resetDsp { s with aram := memOfCells a.cells, dsp := { s.dsp with muteMask := 0 } })
    else raiseFault .invalidAram s

/-- `CopyState(copy)` (R370): saving returns the record of every field to the Host, loading puts back the record the caller gives, an
earlier save as well as the last (entries 9, 10). A load of a record that breaks R69 has no meaning in the spec and is refused. -/
def execCopyState (dir : CopyDir) (s : State) : Result :=
  match dir with
  | .save => .next (s.report (.stream s.dsp))
  | .load d => if d.Wf then .next { s with dsp := d } else .refused .foreignStateBytes

/-- A register written by a pseudo-command, at an address that is on the bus (R128, R362). -/
def storeRegister (a : RegAddr) (b : Byte) (s : State) : State := accessRegister a (.write b) s

/-- `FRAMES #k` (R128). -/
def execFrames (k : Nat) (s : State) : Result := .next (runTicks (32 * k) s)

/-- `INIT` (R128, R424): reset, every register written 0 in ascending order, FLG = 0x20. -/
def execInit (s : State) : Result :=
  .next (storeRegister 0x6C 0x20 ((List.finRange 128).foldl (fun s a => storeRegister a 0 s) (resetDsp s)))

/-- `PITCH v,pppp` (R128): low byte first. -/
def execPitch (v : VoiceId) (pppp : BitVec 16) (s : State) : Result :=
  .next (storeRegister (vreg v 3) (highByte pppp) (storeRegister (vreg v 2) (lowByte pppp) s))

/-- `KEYON mm` (R128). -/
def execKeyOn (mm : Byte) (s : State) : Result := .next (storeRegister 0x4C mm s)

/-- `KEYOFF mm` (R128). -/
def execKeyOff (mm : Byte) (s : State) : Result := .next (storeRegister 0x5C mm s)

/-- The address of directory entry `nn` of page `pp` (R89, R128). -/
def directoryEntryAddr (pp nn : Byte) : Addr := BitVec.ofNat 16 (0x100 * pp.toNat + 4 * nn.toNat)

/-- `DIRENT pp,nn,ssss,llll` (R128). -/
def execDirEnt (pp nn : Byte) (ssss llll : BitVec 16) (s : State) : Result :=
  let a := directoryEntryAddr pp nn
  .next (storeAram (a + 3) (highByte llll) (storeAram (a + 2) (lowByte llll)
    (storeAram (a + 1) (highByte ssss) (storeAram a (lowByte ssss) s))))

/-- `BRR aaaa: h0 d1 .. d8` (R128). -/
def execBrrBlock (aaaa : Addr) (block : Vector Byte 9) (s : State) : Result :=
  .next ((List.finRange 9).foldl (fun s k => storeAram (aaaa + BitVec.ofNat 16 k.val) block[k] s) s)

end Sys2Proof.Machine
end

