-- ==== Sys2Proof/Machine/MicroOps.lean ====
section
/-! DEFINITION. The micro-op instances of the phase table, each as an instruction of its own: that micro-op once, the phase
untouched (entry 15). The rule of each is the rule of its micro-op (41_voice_pipeline.md, 45_echo_fir.md,
40_phase_scheduler.md). -/

namespace Sys2Proof.Machine

/-- V5(0) (R216). -/
def execV5_0 (s : State) : Result := .next (s.mapDsp (opV5 0))

/-- V2(1) (R202). -/
def execV2_1 (s : State) : Result := .next (s.mapDsp (opV2 s.aram 1))

/-- V6(0) (R217). -/
def execV6_0 (s : State) : Result := .next (s.mapDsp (opV6 0))

/-- V3a(1) (R203). -/
def execV3a_1 (s : State) : Result := .next (s.mapDsp (opV3a 1))

/-- V3b(1) (R204). -/
def execV3b_1 (s : State) : Result := .next (s.mapDsp (opV3b s.aram 1))

/-- V3c(1) (R205). -/
def execV3c_1 (s : State) : Result := .next (s.mapDsp (opV3c s.params 1))

/-- V7(0) (R218). -/
def execV7_0 (s : State) : Result := .next (s.mapDsp (opV7 0))

/-- V4(1) (R212). -/
def execV4_1 (s : State) : Result := .next (s.mapDsp (opV4 s.aram 1))

/-- V1(3) (R201). -/
def execV1_3 (s : State) : Result := .next (s.mapDsp (opV1 3))

/-- V8(0) (R219). -/
def execV8_0 (s : State) : Result := .next (s.mapDsp (opV8 0))

/-- V5(1) (R216). -/
def execV5_1 (s : State) : Result := .next (s.mapDsp (opV5 1))

/-- V2(2) (R202). -/
def execV2_2 (s : State) : Result := .next (s.mapDsp (opV2 s.aram 2))

/-- V9(0) (R220). -/
def execV9_0 (s : State) : Result := .next (s.mapDsp (opV9 0))

/-- V6(1) (R217). -/
def execV6_1 (s : State) : Result := .next (s.mapDsp (opV6 1))

/-- V3a(2) (R203). -/
def execV3a_2 (s : State) : Result := .next (s.mapDsp (opV3a 2))

/-- V3b(2) (R204). -/
def execV3b_2 (s : State) : Result := .next (s.mapDsp (opV3b s.aram 2))

/-- V3c(2) (R205). -/
def execV3c_2 (s : State) : Result := .next (s.mapDsp (opV3c s.params 2))

/-- V7(1) (R218). -/
def execV7_1 (s : State) : Result := .next (s.mapDsp (opV7 1))

/-- V4(2) (R212). -/
def execV4_2 (s : State) : Result := .next (s.mapDsp (opV4 s.aram 2))

/-- V1(4) (R201). -/
def execV1_4 (s : State) : Result := .next (s.mapDsp (opV1 4))

/-- V8(1) (R219). -/
def execV8_1 (s : State) : Result := .next (s.mapDsp (opV8 1))

/-- V5(2) (R216). -/
def execV5_2 (s : State) : Result := .next (s.mapDsp (opV5 2))

/-- V2(3) (R202). -/
def execV2_3 (s : State) : Result := .next (s.mapDsp (opV2 s.aram 3))

/-- V9(1) (R220). -/
def execV9_1 (s : State) : Result := .next (s.mapDsp (opV9 1))

/-- V6(2) (R217). -/
def execV6_2 (s : State) : Result := .next (s.mapDsp (opV6 2))

/-- V3a(3) (R203). -/
def execV3a_3 (s : State) : Result := .next (s.mapDsp (opV3a 3))

/-- V3b(3) (R204). -/
def execV3b_3 (s : State) : Result := .next (s.mapDsp (opV3b s.aram 3))

/-- V3c(3) (R205). -/
def execV3c_3 (s : State) : Result := .next (s.mapDsp (opV3c s.params 3))

/-- V7(2) (R218). -/
def execV7_2 (s : State) : Result := .next (s.mapDsp (opV7 2))

/-- V4(3) (R212). -/
def execV4_3 (s : State) : Result := .next (s.mapDsp (opV4 s.aram 3))

/-- V1(5) (R201). -/
def execV1_5 (s : State) : Result := .next (s.mapDsp (opV1 5))

/-- V8(2) (R219). -/
def execV8_2 (s : State) : Result := .next (s.mapDsp (opV8 2))

/-- V5(3) (R216). -/
def execV5_3 (s : State) : Result := .next (s.mapDsp (opV5 3))

/-- V2(4) (R202). -/
def execV2_4 (s : State) : Result := .next (s.mapDsp (opV2 s.aram 4))

/-- V9(2) (R220). -/
def execV9_2 (s : State) : Result := .next (s.mapDsp (opV9 2))

/-- V6(3) (R217). -/
def execV6_3 (s : State) : Result := .next (s.mapDsp (opV6 3))

/-- V3a(4) (R203). -/
def execV3a_4 (s : State) : Result := .next (s.mapDsp (opV3a 4))

/-- V3b(4) (R204). -/
def execV3b_4 (s : State) : Result := .next (s.mapDsp (opV3b s.aram 4))

/-- V3c(4) (R205). -/
def execV3c_4 (s : State) : Result := .next (s.mapDsp (opV3c s.params 4))

/-- V7(3) (R218). -/
def execV7_3 (s : State) : Result := .next (s.mapDsp (opV7 3))

/-- V4(4) (R212). -/
def execV4_4 (s : State) : Result := .next (s.mapDsp (opV4 s.aram 4))

/-- V1(6) (R201). -/
def execV1_6 (s : State) : Result := .next (s.mapDsp (opV1 6))

/-- V8(3) (R219). -/
def execV8_3 (s : State) : Result := .next (s.mapDsp (opV8 3))

/-- V5(4) (R216). -/
def execV5_4 (s : State) : Result := .next (s.mapDsp (opV5 4))

/-- V2(5) (R202). -/
def execV2_5 (s : State) : Result := .next (s.mapDsp (opV2 s.aram 5))

/-- V9(3) (R220). -/
def execV9_3 (s : State) : Result := .next (s.mapDsp (opV9 3))

/-- V6(4) (R217). -/
def execV6_4 (s : State) : Result := .next (s.mapDsp (opV6 4))

/-- V3a(5) (R203). -/
def execV3a_5 (s : State) : Result := .next (s.mapDsp (opV3a 5))

/-- V3b(5) (R204). -/
def execV3b_5 (s : State) : Result := .next (s.mapDsp (opV3b s.aram 5))

/-- V3c(5) (R205). -/
def execV3c_5 (s : State) : Result := .next (s.mapDsp (opV3c s.params 5))

/-- V7(4) (R218). -/
def execV7_4 (s : State) : Result := .next (s.mapDsp (opV7 4))

/-- V4(5) (R212). -/
def execV4_5 (s : State) : Result := .next (s.mapDsp (opV4 s.aram 5))

/-- V1(7) (R201). -/
def execV1_7 (s : State) : Result := .next (s.mapDsp (opV1 7))

/-- V8(4) (R219). -/
def execV8_4 (s : State) : Result := .next (s.mapDsp (opV8 4))

/-- V5(5) (R216). -/
def execV5_5 (s : State) : Result := .next (s.mapDsp (opV5 5))

/-- V2(6) (R202). -/
def execV2_6 (s : State) : Result := .next (s.mapDsp (opV2 s.aram 6))

/-- V9(4) (R220). -/
def execV9_4 (s : State) : Result := .next (s.mapDsp (opV9 4))

/-- V6(5) (R217). -/
def execV6_5 (s : State) : Result := .next (s.mapDsp (opV6 5))

/-- V3a(6) (R203). -/
def execV3a_6 (s : State) : Result := .next (s.mapDsp (opV3a 6))

/-- V3b(6) (R204). -/
def execV3b_6 (s : State) : Result := .next (s.mapDsp (opV3b s.aram 6))

/-- V3c(6) (R205). -/
def execV3c_6 (s : State) : Result := .next (s.mapDsp (opV3c s.params 6))

/-- V1(0) (R201). -/
def execV1_0 (s : State) : Result := .next (s.mapDsp (opV1 0))

/-- V7(5) (R218). -/
def execV7_5 (s : State) : Result := .next (s.mapDsp (opV7 5))

/-- V4(6) (R212). -/
def execV4_6 (s : State) : Result := .next (s.mapDsp (opV4 s.aram 6))

/-- V8(5) (R219). -/
def execV8_5 (s : State) : Result := .next (s.mapDsp (opV8 5))

/-- V5(6) (R216). -/
def execV5_6 (s : State) : Result := .next (s.mapDsp (opV5 6))

/-- V2(7) (R202). -/
def execV2_7 (s : State) : Result := .next (s.mapDsp (opV2 s.aram 7))

/-- V9(5) (R220). -/
def execV9_5 (s : State) : Result := .next (s.mapDsp (opV9 5))

/-- V6(6) (R217). -/
def execV6_6 (s : State) : Result := .next (s.mapDsp (opV6 6))

/-- V3a(7) (R203). -/
def execV3a_7 (s : State) : Result := .next (s.mapDsp (opV3a 7))

/-- V3b(7) (R204). -/
def execV3b_7 (s : State) : Result := .next (s.mapDsp (opV3b s.aram 7))

/-- V3c(7) (R205). -/
def execV3c_7 (s : State) : Result := .next (s.mapDsp (opV3c s.params 7))

/-- V1(1) (R201). -/
def execV1_1 (s : State) : Result := .next (s.mapDsp (opV1 1))

/-- V7(6) (R218). -/
def execV7_6 (s : State) : Result := .next (s.mapDsp (opV7 6))

/-- V4(7) (R212). -/
def execV4_7 (s : State) : Result := .next (s.mapDsp (opV4 s.aram 7))

/-- V8(6) (R219). -/
def execV8_6 (s : State) : Result := .next (s.mapDsp (opV8 6))

/-- V5(7) (R216). -/
def execV5_7 (s : State) : Result := .next (s.mapDsp (opV5 7))

/-- V2(0) (R202). -/
def execV2_0 (s : State) : Result := .next (s.mapDsp (opV2 s.aram 0))

/-- V3a(0) (R203). -/
def execV3a_0 (s : State) : Result := .next (s.mapDsp (opV3a 0))

/-- V9(6) (R220). -/
def execV9_6 (s : State) : Result := .next (s.mapDsp (opV9 6))

/-- V6(7) (R217). -/
def execV6_7 (s : State) : Result := .next (s.mapDsp (opV6 7))

/-- E22 (R301). -/
def execE22 (s : State) : Result := .next (s.mapDsp (opE22 s.aram))

/-- V7(7) (R218). -/
def execV7_7 (s : State) : Result := .next (s.mapDsp (opV7 7))

/-- E23 (R304). -/
def execE23 (s : State) : Result := .next (s.mapDsp (opE23 s.aram))

/-- V8(7) (R219). -/
def execV8_7 (s : State) : Result := .next (s.mapDsp (opV8 7))

/-- E24 (R305). -/
def execE24 (s : State) : Result := .next (s.mapDsp opE24)

/-- V3b(0) (R204). -/
def execV3b_0 (s : State) : Result := .next (s.mapDsp (opV3b s.aram 0))

/-- V9(7) (R220). -/
def execV9_7 (s : State) : Result := .next (s.mapDsp (opV9 7))

/-- E25 (R306). -/
def execE25 (s : State) : Result := .next (s.mapDsp opE25)

/-- E26 (R308). -/
def execE26 (s : State) : Result := .next (s.mapDsp (opE26 s.params))

/-- M27 (R164). -/
def execM27 (s : State) : Result := .next (s.mapDsp opM27)

/-- E27 (R309). -/
def execE27 (s : State) : Result := .next (opE27 s)

/-- M28 (R165). -/
def execM28 (s : State) : Result := .next (s.mapDsp opM28)

/-- E28 (R310). -/
def execE28 (s : State) : Result := .next (s.mapDsp opE28)

/-- M29 (R166). -/
def execM29 (s : State) : Result := .next (s.mapDsp opM29)

/-- E29 (R311). -/
def execE29 (s : State) : Result := .next (opE29 s)

/-- M30 (R167). -/
def execM30 (s : State) : Result := .next (s.mapDsp (opM30 s.params))

/-- V3c(0) (R205). -/
def execV3c_0 (s : State) : Result := .next (s.mapDsp (opV3c s.params 0))

/-- E30 (R313). -/
def execE30 (s : State) : Result := .next (opE30 s)

/-- V4(0) (R212). -/
def execV4_0 (s : State) : Result := .next (s.mapDsp (opV4 s.aram 0))

/-- V1(2) (R201). -/
def execV1_2 (s : State) : Result := .next (s.mapDsp (opV1 2))

end Sys2Proof.Machine
end

