-- ==== Sys2Proof/Machine/Phases.lean ====
section
/-! DEFINITION. The 32 rows of the phase table as instructions (R124, R162): the row's micro-ops in order, then the phase after
the row (R161; entry 20). -/

namespace Sys2Proof.Machine

/-- Row 0 (R162). -/
def execPh0 (s : State) : Result := .next (phaseStep 0 s)

/-- Row 1 (R162). -/
def execPh1 (s : State) : Result := .next (phaseStep 1 s)

/-- Row 2 (R162). -/
def execPh2 (s : State) : Result := .next (phaseStep 2 s)

/-- Row 3 (R162). -/
def execPh3 (s : State) : Result := .next (phaseStep 3 s)

/-- Row 4 (R162). -/
def execPh4 (s : State) : Result := .next (phaseStep 4 s)

/-- Row 5 (R162). -/
def execPh5 (s : State) : Result := .next (phaseStep 5 s)

/-- Row 6 (R162). -/
def execPh6 (s : State) : Result := .next (phaseStep 6 s)

/-- Row 7 (R162). -/
def execPh7 (s : State) : Result := .next (phaseStep 7 s)

/-- Row 8 (R162). -/
def execPh8 (s : State) : Result := .next (phaseStep 8 s)

/-- Row 9 (R162). -/
def execPh9 (s : State) : Result := .next (phaseStep 9 s)

/-- Row 10 (R162). -/
def execPh10 (s : State) : Result := .next (phaseStep 10 s)

/-- Row 11 (R162). -/
def execPh11 (s : State) : Result := .next (phaseStep 11 s)

/-- Row 12 (R162). -/
def execPh12 (s : State) : Result := .next (phaseStep 12 s)

/-- Row 13 (R162). -/
def execPh13 (s : State) : Result := .next (phaseStep 13 s)

/-- Row 14 (R162). -/
def execPh14 (s : State) : Result := .next (phaseStep 14 s)

/-- Row 15 (R162). -/
def execPh15 (s : State) : Result := .next (phaseStep 15 s)

/-- Row 16 (R162). -/
def execPh16 (s : State) : Result := .next (phaseStep 16 s)

/-- Row 17 (R162). -/
def execPh17 (s : State) : Result := .next (phaseStep 17 s)

/-- Row 18 (R162). -/
def execPh18 (s : State) : Result := .next (phaseStep 18 s)

/-- Row 19 (R162). -/
def execPh19 (s : State) : Result := .next (phaseStep 19 s)

/-- Row 20 (R162). -/
def execPh20 (s : State) : Result := .next (phaseStep 20 s)

/-- Row 21 (R162). -/
def execPh21 (s : State) : Result := .next (phaseStep 21 s)

/-- Row 22 (R162). -/
def execPh22 (s : State) : Result := .next (phaseStep 22 s)

/-- Row 23 (R162). -/
def execPh23 (s : State) : Result := .next (phaseStep 23 s)

/-- Row 24 (R162). -/
def execPh24 (s : State) : Result := .next (phaseStep 24 s)

/-- Row 25 (R162). -/
def execPh25 (s : State) : Result := .next (phaseStep 25 s)

/-- Row 26 (R162). -/
def execPh26 (s : State) : Result := .next (phaseStep 26 s)

/-- Row 27 (R162). -/
def execPh27 (s : State) : Result := .next (phaseStep 27 s)

/-- Row 28 (R162). -/
def execPh28 (s : State) : Result := .next (phaseStep 28 s)

/-- Row 29 (R162). -/
def execPh29 (s : State) : Result := .next (phaseStep 29 s)

/-- Row 30 (R162). -/
def execPh30 (s : State) : Result := .next (phaseStep 30 s)

/-- Row 31 (R162). -/
def execPh31 (s : State) : Result := .next (phaseStep 31 s)

end Sys2Proof.Machine
end

