-- ==== Sys2Proof/Machine/Registers.lean ====
section
/-! DEFINITION. The register addresses as instructions: the Host's access to the register each names (R111, R362, R363;
entry 13). -/

namespace Sys2Proof.Machine

/-- VOLL(v) (R22). -/
def execVoll (v : VoiceId) (acc : RegAccess) (s : State) : Result := .next (accessRegister (vreg v 0) acc s)

/-- VOLR(v) (R22). -/
def execVolr (v : VoiceId) (acc : RegAccess) (s : State) : Result := .next (accessRegister (vreg v 1) acc s)

/-- PITCHL(v) (R23). -/
def execPitchl (v : VoiceId) (acc : RegAccess) (s : State) : Result := .next (accessRegister (vreg v 2) acc s)

/-- PITCHH(v) (R23). -/
def execPitchh (v : VoiceId) (acc : RegAccess) (s : State) : Result := .next (accessRegister (vreg v 3) acc s)

/-- SRCN(v) (R24). -/
def execSrcn (v : VoiceId) (acc : RegAccess) (s : State) : Result := .next (accessRegister (vreg v 4) acc s)

/-- ADSR1(v) (R25). -/
def execAdsr1 (v : VoiceId) (acc : RegAccess) (s : State) : Result := .next (accessRegister (vreg v 5) acc s)

/-- ADSR2(v) (R26). -/
def execAdsr2 (v : VoiceId) (acc : RegAccess) (s : State) : Result := .next (accessRegister (vreg v 6) acc s)

/-- GAIN(v) (R27). -/
def execGain (v : VoiceId) (acc : RegAccess) (s : State) : Result := .next (accessRegister (vreg v 7) acc s)

/-- ENVX(v) (R28). -/
def execEnvx (v : VoiceId) (acc : RegAccess) (s : State) : Result := .next (accessRegister (vreg v 8) acc s)

/-- OUTX(v) (R29). -/
def execOutx (v : VoiceId) (acc : RegAccess) (s : State) : Result := .next (accessRegister (vreg v 9) acc s)

/-- unused_A_v (R45). -/
def execUnusedA (v : VoiceId) (acc : RegAccess) (s : State) : Result := .next (accessRegister (vreg v 10) acc s)

/-- unused_B_v (R45). -/
def execUnusedB (v : VoiceId) (acc : RegAccess) (s : State) : Result := .next (accessRegister (vreg v 11) acc s)

/-- unused_E_v (R45). -/
def execUnusedE (v : VoiceId) (acc : RegAccess) (s : State) : Result := .next (accessRegister (vreg v 14) acc s)

/-- FIRx (R44). -/
def execFir (x : VoiceId) (acc : RegAccess) (s : State) : Result := .next (accessRegister (vreg x 15) acc s)

/-- MVOLL (R31). -/
def execMvoll (acc : RegAccess) (s : State) : Result := .next (accessRegister 0x0C acc s)

/-- MVOLR (R31). -/
def execMvolr (acc : RegAccess) (s : State) : Result := .next (accessRegister 0x1C acc s)

/-- EVOLL (R32). -/
def execEvoll (acc : RegAccess) (s : State) : Result := .next (accessRegister 0x2C acc s)

/-- EVOLR (R32). -/
def execEvolr (acc : RegAccess) (s : State) : Result := .next (accessRegister 0x3C acc s)

/-- KON (R33). -/
def execKon (acc : RegAccess) (s : State) : Result := .next (accessRegister 0x4C acc s)

/-- KOFF (R34). -/
def execKoff (acc : RegAccess) (s : State) : Result := .next (accessRegister 0x5C acc s)

/-- FLG (R35). -/
def execFlg (acc : RegAccess) (s : State) : Result := .next (accessRegister 0x6C acc s)

/-- ENDX (R36). -/
def execEndx (acc : RegAccess) (s : State) : Result := .next (accessRegister 0x7C acc s)

/-- EFB (R37). -/
def execEfb (acc : RegAccess) (s : State) : Result := .next (accessRegister 0x0D acc s)

/-- unused_1D (R45). -/
def execUnused1D (acc : RegAccess) (s : State) : Result := .next (accessRegister 0x1D acc s)

/-- PMON (R38). -/
def execPmon (acc : RegAccess) (s : State) : Result := .next (accessRegister 0x2D acc s)

/-- NON (R39). -/
def execNon (acc : RegAccess) (s : State) : Result := .next (accessRegister 0x3D acc s)

/-- EON (R40). -/
def execEon (acc : RegAccess) (s : State) : Result := .next (accessRegister 0x4D acc s)

/-- DIR (R41). -/
def execDir (acc : RegAccess) (s : State) : Result := .next (accessRegister 0x5D acc s)

/-- ESA (R42). -/
def execEsa (acc : RegAccess) (s : State) : Result := .next (accessRegister 0x6D acc s)

/-- EDL (R43). -/
def execEdl (acc : RegAccess) (s : State) : Result := .next (accessRegister 0x7D acc s)

end Sys2Proof.Machine
end

