-- ==== Sys2Proof/Machine/Dispatch.lean ====
section
/-! DEFINITION. The meaning of every instruction: one arm per constructor. -/

namespace Sys2Proof.Machine

def exec (i : Instr) (s : State) : Host.Outcome State Fault Refusal :=
  match i with
  | .ph0 => Sys2Proof.Machine.execPh0 s
  | .ph1 => Sys2Proof.Machine.execPh1 s
  | .ph2 => Sys2Proof.Machine.execPh2 s
  | .ph3 => Sys2Proof.Machine.execPh3 s
  | .ph4 => Sys2Proof.Machine.execPh4 s
  | .ph5 => Sys2Proof.Machine.execPh5 s
  | .ph6 => Sys2Proof.Machine.execPh6 s
  | .ph7 => Sys2Proof.Machine.execPh7 s
  | .ph8 => Sys2Proof.Machine.execPh8 s
  | .ph9 => Sys2Proof.Machine.execPh9 s
  | .ph10 => Sys2Proof.Machine.execPh10 s
  | .ph11 => Sys2Proof.Machine.execPh11 s
  | .ph12 => Sys2Proof.Machine.execPh12 s
  | .ph13 => Sys2Proof.Machine.execPh13 s
  | .ph14 => Sys2Proof.Machine.execPh14 s
  | .ph15 => Sys2Proof.Machine.execPh15 s
  | .ph16 => Sys2Proof.Machine.execPh16 s
  | .ph17 => Sys2Proof.Machine.execPh17 s
  | .ph18 => Sys2Proof.Machine.execPh18 s
  | .ph19 => Sys2Proof.Machine.execPh19 s
  | .ph20 => Sys2Proof.Machine.execPh20 s
  | .ph21 => Sys2Proof.Machine.execPh21 s
  | .ph22 => Sys2Proof.Machine.execPh22 s
  | .ph23 => Sys2Proof.Machine.execPh23 s
  | .ph24 => Sys2Proof.Machine.execPh24 s
  | .ph25 => Sys2Proof.Machine.execPh25 s
  | .ph26 => Sys2Proof.Machine.execPh26 s
  | .ph27 => Sys2Proof.Machine.execPh27 s
  | .ph28 => Sys2Proof.Machine.execPh28 s
  | .ph29 => Sys2Proof.Machine.execPh29 s
  | .ph30 => Sys2Proof.Machine.execPh30 s
  | .ph31 => Sys2Proof.Machine.execPh31 s
  | .v5_0 => Sys2Proof.Machine.execV5_0 s
  | .v2_1 => Sys2Proof.Machine.execV2_1 s
  | .v6_0 => Sys2Proof.Machine.execV6_0 s
  | .v3a_1 => Sys2Proof.Machine.execV3a_1 s
  | .v3b_1 => Sys2Proof.Machine.execV3b_1 s
  | .v3c_1 => Sys2Proof.Machine.execV3c_1 s
  | .v7_0 => Sys2Proof.Machine.execV7_0 s
  | .v4_1 => Sys2Proof.Machine.execV4_1 s
  | .v1_3 => Sys2Proof.Machine.execV1_3 s
  | .v8_0 => Sys2Proof.Machine.execV8_0 s
  | .v5_1 => Sys2Proof.Machine.execV5_1 s
  | .v2_2 => Sys2Proof.Machine.execV2_2 s
  | .v9_0 => Sys2Proof.Machine.execV9_0 s
  | .v6_1 => Sys2Proof.Machine.execV6_1 s
  | .v3a_2 => Sys2Proof.Machine.execV3a_2 s
  | .v3b_2 => Sys2Proof.Machine.execV3b_2 s
  | .v3c_2 => Sys2Proof.Machine.execV3c_2 s
  | .v7_1 => Sys2Proof.Machine.execV7_1 s
  | .v4_2 => Sys2Proof.Machine.execV4_2 s
  | .v1_4 => Sys2Proof.Machine.execV1_4 s
  | .v8_1 => Sys2Proof.Machine.execV8_1 s
  | .v5_2 => Sys2Proof.Machine.execV5_2 s
  | .v2_3 => Sys2Proof.Machine.execV2_3 s
  | .v9_1 => Sys2Proof.Machine.execV9_1 s
  | .v6_2 => Sys2Proof.Machine.execV6_2 s
  | .v3a_3 => Sys2Proof.Machine.execV3a_3 s
  | .v3b_3 => Sys2Proof.Machine.execV3b_3 s
  | .v3c_3 => Sys2Proof.Machine.execV3c_3 s
  | .v7_2 => Sys2Proof.Machine.execV7_2 s
  | .v4_3 => Sys2Proof.Machine.execV4_3 s
  | .v1_5 => Sys2Proof.Machine.execV1_5 s
  | .v8_2 => Sys2Proof.Machine.execV8_2 s
  | .v5_3 => Sys2Proof.Machine.execV5_3 s
  | .v2_4 => Sys2Proof.Machine.execV2_4 s
  | .v9_2 => Sys2Proof.Machine.execV9_2 s
  | .v6_3 => Sys2Proof.Machine.execV6_3 s
  | .v3a_4 => Sys2Proof.Machine.execV3a_4 s
  | .v3b_4 => Sys2Proof.Machine.execV3b_4 s
  | .v3c_4 => Sys2Proof.Machine.execV3c_4 s
  | .v7_3 => Sys2Proof.Machine.execV7_3 s
  | .v4_4 => Sys2Proof.Machine.execV4_4 s
  | .v1_6 => Sys2Proof.Machine.execV1_6 s
  | .v8_3 => Sys2Proof.Machine.execV8_3 s
  | .v5_4 => Sys2Proof.Machine.execV5_4 s
  | .v2_5 => Sys2Proof.Machine.execV2_5 s
  | .v9_3 => Sys2Proof.Machine.execV9_3 s
  | .v6_4 => Sys2Proof.Machine.execV6_4 s
  | .v3a_5 => Sys2Proof.Machine.execV3a_5 s
  | .v3b_5 => Sys2Proof.Machine.execV3b_5 s
  | .v3c_5 => Sys2Proof.Machine.execV3c_5 s
  | .v7_4 => Sys2Proof.Machine.execV7_4 s
  | .v4_5 => Sys2Proof.Machine.execV4_5 s
  | .v1_7 => Sys2Proof.Machine.execV1_7 s
  | .v8_4 => Sys2Proof.Machine.execV8_4 s
  | .v5_5 => Sys2Proof.Machine.execV5_5 s
  | .v2_6 => Sys2Proof.Machine.execV2_6 s
  | .v9_4 => Sys2Proof.Machine.execV9_4 s
  | .v6_5 => Sys2Proof.Machine.execV6_5 s
  | .v3a_6 => Sys2Proof.Machine.execV3a_6 s
  | .v3b_6 => Sys2Proof.Machine.execV3b_6 s
  | .v3c_6 => Sys2Proof.Machine.execV3c_6 s
  | .v1_0 => Sys2Proof.Machine.execV1_0 s
  | .v7_5 => Sys2Proof.Machine.execV7_5 s
  | .v4_6 => Sys2Proof.Machine.execV4_6 s
  | .v8_5 => Sys2Proof.Machine.execV8_5 s
  | .v5_6 => Sys2Proof.Machine.execV5_6 s
  | .v2_7 => Sys2Proof.Machine.execV2_7 s
  | .v9_5 => Sys2Proof.Machine.execV9_5 s
  | .v6_6 => Sys2Proof.Machine.execV6_6 s
  | .v3a_7 => Sys2Proof.Machine.execV3a_7 s
  | .v3b_7 => Sys2Proof.Machine.execV3b_7 s
  | .v3c_7 => Sys2Proof.Machine.execV3c_7 s
  | .v1_1 => Sys2Proof.Machine.execV1_1 s
  | .v7_6 => Sys2Proof.Machine.execV7_6 s
  | .v4_7 => Sys2Proof.Machine.execV4_7 s
  | .v8_6 => Sys2Proof.Machine.execV8_6 s
  | .v5_7 => Sys2Proof.Machine.execV5_7 s
  | .v2_0 => Sys2Proof.Machine.execV2_0 s
  | .v3a_0 => Sys2Proof.Machine.execV3a_0 s
  | .v9_6 => Sys2Proof.Machine.execV9_6 s
  | .v6_7 => Sys2Proof.Machine.execV6_7 s
  | .e22 => Sys2Proof.Machine.execE22 s
  | .v7_7 => Sys2Proof.Machine.execV7_7 s
  | .e23 => Sys2Proof.Machine.execE23 s
  | .v8_7 => Sys2Proof.Machine.execV8_7 s
  | .e24 => Sys2Proof.Machine.execE24 s
  | .v3b_0 => Sys2Proof.Machine.execV3b_0 s
  | .v9_7 => Sys2Proof.Machine.execV9_7 s
  | .e25 => Sys2Proof.Machine.execE25 s
  | .e26 => Sys2Proof.Machine.execE26 s
  | .m27 => Sys2Proof.Machine.execM27 s
  | .e27 => Sys2Proof.Machine.execE27 s
  | .m28 => Sys2Proof.Machine.execM28 s
  | .e28 => Sys2Proof.Machine.execE28 s
  | .m29 => Sys2Proof.Machine.execM29 s
  | .e29 => Sys2Proof.Machine.execE29 s
  | .m30 => Sys2Proof.Machine.execM30 s
  | .v3c_0 => Sys2Proof.Machine.execV3c_0 s
  | .e30 => Sys2Proof.Machine.execE30 s
  | .v4_0 => Sys2Proof.Machine.execV4_0 s
  | .v1_2 => Sys2Proof.Machine.execV1_2 s
  | .writeReg addr data => Sys2Proof.Machine.execWriteReg addr data s
  | .readReg addr => Sys2Proof.Machine.execReadReg addr s
  | .aramWrite addr data => Sys2Proof.Machine.execAramWrite addr data s
  | .aramRead addr => Sys2Proof.Machine.execAramRead addr s
  | .run ticks => Sys2Proof.Machine.execRun ticks s
  | .reset => Sys2Proof.Machine.execReset s
  | .muteVoices mask => Sys2Proof.Machine.execMuteVoices mask s
  | .frames k => Sys2Proof.Machine.execFrames k s
  | .init => Sys2Proof.Machine.execInit s
  | .pitch v pppp => Sys2Proof.Machine.execPitch v pppp s
  | .keyOn mm => Sys2Proof.Machine.execKeyOn mm s
  | .keyOff mm => Sys2Proof.Machine.execKeyOff mm s
  | .dirEnt pp nn ssss llll => Sys2Proof.Machine.execDirEnt pp nn ssss llll s
  | .brrBlock aaaa block => Sys2Proof.Machine.execBrrBlock aaaa block s
  | .construct aram => Sys2Proof.Machine.execConstruct aram s
  | .copyState dir => Sys2Proof.Machine.execCopyState dir s
  | .resamplerConstruct sizeBytes => Sys2Proof.Machine.execResamplerConstruct sizeBytes s
  | .push bytes => Sys2Proof.Machine.execPush bytes s
  | .readSamples sampleCount => Sys2Proof.Machine.execReadSamples sampleCount s
  | .setTimeRatio ratio => Sys2Proof.Machine.execSetTimeRatio ratio s
  | .getTimeRatio => Sys2Proof.Machine.execGetTimeRatio s
  | .available => Sys2Proof.Machine.execAvailable s
  | .clear => Sys2Proof.Machine.execClear s
  | .resize sizeBytes => Sys2Proof.Machine.execResize sizeBytes s
  | .cacheSilence => Sys2Proof.Machine.execCacheSilence s
  | .voll v acc => Sys2Proof.Machine.execVoll v acc s
  | .volr v acc => Sys2Proof.Machine.execVolr v acc s
  | .pitchl v acc => Sys2Proof.Machine.execPitchl v acc s
  | .pitchh v acc => Sys2Proof.Machine.execPitchh v acc s
  | .srcn v acc => Sys2Proof.Machine.execSrcn v acc s
  | .adsr1 v acc => Sys2Proof.Machine.execAdsr1 v acc s
  | .adsr2 v acc => Sys2Proof.Machine.execAdsr2 v acc s
  | .gain v acc => Sys2Proof.Machine.execGain v acc s
  | .envx v acc => Sys2Proof.Machine.execEnvx v acc s
  | .outx v acc => Sys2Proof.Machine.execOutx v acc s
  | .unusedA v acc => Sys2Proof.Machine.execUnusedA v acc s
  | .unusedB v acc => Sys2Proof.Machine.execUnusedB v acc s
  | .unusedE v acc => Sys2Proof.Machine.execUnusedE v acc s
  | .fir x acc => Sys2Proof.Machine.execFir x acc s
  | .mvoll acc => Sys2Proof.Machine.execMvoll acc s
  | .mvolr acc => Sys2Proof.Machine.execMvolr acc s
  | .evoll acc => Sys2Proof.Machine.execEvoll acc s
  | .evolr acc => Sys2Proof.Machine.execEvolr acc s
  | .kon acc => Sys2Proof.Machine.execKon acc s
  | .koff acc => Sys2Proof.Machine.execKoff acc s
  | .flg acc => Sys2Proof.Machine.execFlg acc s
  | .endx acc => Sys2Proof.Machine.execEndx acc s
  | .efb acc => Sys2Proof.Machine.execEfb acc s
  | .unused1D acc => Sys2Proof.Machine.execUnused1D acc s
  | .pmon acc => Sys2Proof.Machine.execPmon acc s
  | .non acc => Sys2Proof.Machine.execNon acc s
  | .eon acc => Sys2Proof.Machine.execEon acc s
  | .dir acc => Sys2Proof.Machine.execDir acc s
  | .esa acc => Sys2Proof.Machine.execEsa acc s
  | .edl acc => Sys2Proof.Machine.execEdl acc s
  | .flgFields r m e n => Sys2Proof.Machine.execFlgFields r m e n s
  | .adsr1Fields v e d a => Sys2Proof.Machine.execAdsr1Fields v e d a s
  | .adsr2Fields v l r => Sys2Proof.Machine.execAdsr2Fields v l r s
  | .gainDirect v level => Sys2Proof.Machine.execGainDirect v level s
  | .gainLinearDecrease v r => Sys2Proof.Machine.execGainLinearDecrease v r s
  | .gainExponentialDecrease v r => Sys2Proof.Machine.execGainExponentialDecrease v r s
  | .gainLinearIncrease v r => Sys2Proof.Machine.execGainLinearIncrease v r s
  | .gainTwoSlopeIncrease v r => Sys2Proof.Machine.execGainTwoSlopeIncrease v r s
  | .pitchhFields v x p => Sys2Proof.Machine.execPitchhFields v x p s
  | .brrFilter0 v sh l e => Sys2Proof.Machine.execBrrFilter0 v sh l e s
  | .brrFilter1 v sh l e => Sys2Proof.Machine.execBrrFilter1 v sh l e s
  | .brrFilter2 v sh l e => Sys2Proof.Machine.execBrrFilter2 v sh l e s
  | .brrFilter3 v sh l e => Sys2Proof.Machine.execBrrFilter3 v sh l e s
  | .brrShiftValid v sh f l e => Sys2Proof.Machine.execBrrShiftValid v sh f l e s
  | .brrShiftInvalid v sh f l e => Sys2Proof.Machine.execBrrShiftInvalid v sh f l e s
  | .brrTerminator v sh f => Sys2Proof.Machine.execBrrTerminator v sh f s
  | .brrEndLoop v sh f => Sys2Proof.Machine.execBrrEndLoop v sh f s
  | .brrNotEnd v sh f l => Sys2Proof.Machine.execBrrNotEnd v sh f l s
  | .brrData v a b => Sys2Proof.Machine.execBrrData v a b s
  | .directoryEntry v start loopAddr => Sys2Proof.Machine.execDirectoryEntry v start loopAddr s
  | .echoFrame left right => Sys2Proof.Machine.execEchoFrame left right s
  | .outputPair left right => Sys2Proof.Machine.execOutputPair left right s

end Sys2Proof.Machine
end

