-- ==== Sys2Proof/Machine/Step.lean ====
section
/-! DEFINITION. One step of the system (R13, R94, R360, R409; entries 5, 6): an operation the Host has issued by name, else the next
command of its byte stream. The DSP never steps by itself: its ticks are those of a `Run`. -/

namespace Sys2Proof.Machine

/-- The row a phase selects, as an instruction (R124). -/
def phaseInstr (p : Fin 32) : Instr := phRows[p]

/-- The step that takes the next command of the byte stream: the notation's decoder rejects a malformed stream before any
operation of it is issued (R127; entry 8). -/
def hostStep (s : State) : Result :=
  match decodeStream s.hostBytes, decodeHcs s.hostBytes with
  | .ok _, .ok (i, rest) => exec i { s with hostBytes := rest }
  | _, _ => .refused .malformedHostStream

/-- One step. With nothing pending from the Host the DSP holds its state (R360, R409). -/
def step (s : State) : Host.Outcome State Fault Refusal :=
  match s.issued, s.hostBytes with
  | i :: rest, _ => exec i.val { s with issued := rest }
  | [], _ :: _ => hostStep s
  | [], [] => .next s

/-- The Host operation that puts an instruction's word before the machine: the operation itself, and for a word of a data format, which
is a step of neither agent, the Host's write of its byte to GAIN of voice 0 (entry 6). -/
def deliver (i : Instr) (b : Byte) : HostOp :=
  if h : hostOperation i = true then ⟨i, h⟩ else ⟨.gain 0 (.write b), rfl⟩

/-- The state in which the next step runs the instruction a table word names, and nothing else is pending (entry 6): a phase word is
placed in the phase counter and one tick is run there, a Host command is placed in the byte stream, and another word is delivered by an
operation issued by name. -/
def State.withFetchWord (s : State) (nbits w : Nat) : State :=
  match decodeWhole .ph (tableBytes ((nbits + 7) / 8) w), decodeHcs (paddedTableBytes nbits w), decodeTableWord nbits w with
  | some _, _, _ =>
    { s with issued := [⟨.run 1, rfl⟩], hostBytes := [], dsp := { s.dsp with phase := BitVec.toFin (BitVec.ofNat 5 w) } }
  | none, .ok (_, rest), _ => { s with issued := [], hostBytes := (paddedTableBytes nbits w).take ((paddedTableBytes nbits w).length - rest.length) }
  | none, .error _, some i => { s with issued := [deliver i (BitVec.ofNat 8 w)], hostBytes := [] }
  | none, .error _, none => { s with issued := [], hostBytes := paddedTableBytes nbits w }

end Sys2Proof.Machine
end

