-- ==== Sys2Proof/Safety.lean ====
section
/-! DEFINITION. What the claims speak of: the invariant of the system, the parts of the state the DSP leaves to the Host, running
several instructions, and the states that a run with any Host reaches. -/

namespace Sys2Proof.Machine

/-- The invariant of the system: R69 for the DSP, the canonical form of ARAM, the resampler's ranges, the constraint on P2. -/
abbrev State.Inv (s : State) : Prop := s.params.Wf ∧ s.dsp.Wf ∧ s.aram.Wf ∧ s.resampler.Wf

/-- Everything a tick leaves alone: the parameters, the resampler, and the Host's side of the interface. -/
structure SameHost (s t : State) : Prop where
  params : t.params = s.params
  resampler : t.resampler = s.resampler
  issued : t.issued = s.issued
  hostBytes : t.hostBytes = s.hostBytes
  results : t.results = s.results

/-- Instructions one after another, stopping at the first that does not go on. -/
def execAll : List Instr → State → Result
  | [], s => .next s
  | i :: is, s =>
    match exec i s with
    | .next t => execAll is t
    | .fault f => .fault f
    | .refused r => .refused r

/-- The instruction that is a micro-op alone (entry 15). -/
def microInstr : MicroOp → Instr
  | .v1 v => (#v[.v1_0, .v1_1, .v1_2, .v1_3, .v1_4, .v1_5, .v1_6, .v1_7] : Vector Instr 8)[v]
  | .v2 v => (#v[.v2_0, .v2_1, .v2_2, .v2_3, .v2_4, .v2_5, .v2_6, .v2_7] : Vector Instr 8)[v]
  | .v3a v => (#v[.v3a_0, .v3a_1, .v3a_2, .v3a_3, .v3a_4, .v3a_5, .v3a_6, .v3a_7] : Vector Instr 8)[v]
  | .v3b v => (#v[.v3b_0, .v3b_1, .v3b_2, .v3b_3, .v3b_4, .v3b_5, .v3b_6, .v3b_7] : Vector Instr 8)[v]
  | .v3c v => (#v[.v3c_0, .v3c_1, .v3c_2, .v3c_3, .v3c_4, .v3c_5, .v3c_6, .v3c_7] : Vector Instr 8)[v]
  | .v4 v => (#v[.v4_0, .v4_1, .v4_2, .v4_3, .v4_4, .v4_5, .v4_6, .v4_7] : Vector Instr 8)[v]
  | .v5 v => (#v[.v5_0, .v5_1, .v5_2, .v5_3, .v5_4, .v5_5, .v5_6, .v5_7] : Vector Instr 8)[v]
  | .v6 v => (#v[.v6_0, .v6_1, .v6_2, .v6_3, .v6_4, .v6_5, .v6_6, .v6_7] : Vector Instr 8)[v]
  | .v7 v => (#v[.v7_0, .v7_1, .v7_2, .v7_3, .v7_4, .v7_5, .v7_6, .v7_7] : Vector Instr 8)[v]
  | .v8 v => (#v[.v8_0, .v8_1, .v8_2, .v8_3, .v8_4, .v8_5, .v8_6, .v8_7] : Vector Instr 8)[v]
  | .v9 v => (#v[.v9_0, .v9_1, .v9_2, .v9_3, .v9_4, .v9_5, .v9_6, .v9_7] : Vector Instr 8)[v]
  | .e22 => .e22
  | .e23 => .e23
  | .e24 => .e24
  | .e25 => .e25
  | .e26 => .e26
  | .e27 => .e27
  | .e28 => .e28
  | .e29 => .e29
  | .e30 => .e30
  | .m27 => .m27
  | .m28 => .m28
  | .m29 => .m29
  | .m30 => .m30

/-- Instruction `i` runs the instructions `ops` one after another and then leaves the phase after `p` (R161). -/
def RowRuns (i : Instr) (p : Fin 32) (ops : List Instr) : Prop :=
  ∀ s : State, ∃ t, execAll ops s = .next t ∧ exec i s = .next (t.mapDsp (fun d => { d with phase := p + 1 }))

/-- The predicted part of a sample, written out filter by filter (R244 to R247): `p1` the stored sample before, `p2` half of the one
before that, both floors of the arithmetic shift. -/
def Predicted (filter : Nat) (p1 p2 x : Int) : Prop :=
  (filter = 0 ∧ x = 0) ∨
  (filter = 1 ∧ x = p1 / 2 + -p1 / 32) ∨
  (filter = 2 ∧ x = p1 - p2 + p2 / 16 + p1 * -3 / 64) ∨
  (filter = 3 ∧ x = p1 - p2 + p1 * -13 / 128 + p2 * 3 / 16)

/-- The scaled nibble, written out (R242, R243). -/
def Scaled (shift : Nat) (n x : Int) : Prop :=
  (shift ≤ 12 ∧ x = n * 2 ^ shift / 2) ∨ (12 < shift ∧ n < 0 ∧ x = -0x800) ∨ (12 < shift ∧ 0 ≤ n ∧ x = 0)

/-- What a group decoded with a header at ring position `pos` leaves in the ring (R240, R248): each of the four samples is its scaled
nibble plus the prediction from the two entries before it in the same ring, clamped, doubled and wrapped; the eight other
entries are unchanged. -/
def DecodedGroup (header first second : Byte) (pos : Nat) (old new : Vector Int 12) : Prop :=
  (∀ k : Fin 4, ∃ a b : Int,
    Scaled (header.toNat / 16) (sext4 (groupNibble first second k)) a ∧
    Predicted (header.toNat / 4 % 4) new[ringIndex (pos + k.val + 11)] (new[ringIndex (pos + k.val + 10)] / 2) b ∧
    new[ringIndex (pos + k.val)] = sext16 (clamp16 (a + b) * 2)) ∧
  ∀ j : Fin 8, new[ringIndex (pos + 4 + j.val)] = old[ringIndex (pos + 4 + j.val)]

/-- What follows an envelope step with candidate `c` and rate index `rate` (R271 to R274): the candidate becomes the hidden level;
the mode changes whether or not the counter fires; the level takes the clamped candidate only when it fires; nothing else moves. -/
def Settles (p : Params) (counter : Nat) (envData : Byte) (c : Int) (rate : Fin 32) (x y : Voice) : Prop :=
  y = { x with
    hiddenEnv := c
    env := if (counter + rateOffset[rate]) % ratePeriod[rate] = 0 then max 0 (min c 0x7FF) else x.env
    envMode :=
      if x.envMode = .decay ∧ c / 0x100 = envData.toNat / 32 then .sustain
      else if x.envMode = .attack ∧ ((if p.attackDoneGe then 0x7FF ≤ c else 0x7FF < c) ∨ c < 0) then .decay
      else x.envMode }

/-- The step of Gain mode, pattern by pattern of the GAIN byte (R115, R266 to R270). -/
def GainSettles (p : Params) (counter : Nat) (gain : Byte) (x y : Voice) : Prop :=
  (gain.toNat < 128 → Settles p counter gain (gain.toNat * 0x10) 31 x y) ∧
  (gain.toNat / 32 = 4 → Settles p counter gain (x.env - 0x20) (lowRate gain) x y) ∧
  (gain.toNat / 32 = 5 → Settles p counter gain (x.env - 1 - (x.env - 1) / 0x100) (lowRate gain) x y) ∧
  (gain.toNat / 32 = 6 → Settles p counter gain (x.env + 0x20) (lowRate gain) x y) ∧
  (gain.toNat / 32 = 7 →
    Settles p counter gain
      (if 0x600 ≤ x.hiddenEnv ∨ (p.hiddenEnvUnsigned = true ∧ x.hiddenEnv < 0 ∧ 0x600 ≤ x.hiddenEnv + 2 ^ 32) then x.env + 0x8 else x.env + 0x20)
      (lowRate gain) x y)

/-- The step of ADSR mode, by the mode on entry (R263 to R265). -/
def AdsrSettles (p : Params) (counter : Nat) (adsr1 adsr2 : Byte) (x y : Voice) : Prop :=
  (x.envMode = .attack →
    Settles p counter adsr2 (if adsr1.toNat % 16 = 15 then x.env + 0x400 else x.env + 0x20) (attackRate adsr1) x y) ∧
  (x.envMode = .decay → Settles p counter adsr2 (x.env - 1 - (x.env - 1) / 0x100) (decayRate adsr1) x y) ∧
  (x.envMode = .sustain → Settles p counter adsr2 (x.env - 1 - (x.env - 1) / 0x100) (lowRate adsr2) x y)

/-- What an envelope run does to a voice (R261, R262): Release falls by 8 and reads no register; the other modes step by ADSR1 bit 7. -/
def EnvelopeRan (p : Params) (counter : Nat) (adsr1 adsr2 gain : Byte) (x y : Voice) : Prop :=
  (x.envMode = .release → y = { x with env := max (x.env - 8) 0 }) ∧
  (x.envMode ≠ .release → 128 ≤ adsr1.toNat → AdsrSettles p counter adsr1 adsr2 x y) ∧
  (x.envMode ≠ .release → adsr1.toNat < 128 → GainSettles p counter gain x y)

/-- The states a run reaches from reset, for any parameters that satisfy P2's constraint, when the Host may issue any of its
operations between any two steps (R360, R373). -/
inductive Reachable : State → Prop where
  /-- A DSP just constructed over an empty ARAM, with parameters `p`. -/
  | reset (p : Params) (h : p.Wf) : Reachable { State.reset with params := p, dsp := Dsp.reset p.resetImage 0 }
  /-- One step of the machine. -/
  | step {s t : State} (h : Reachable s) (hs : Machine.step s = .next t) : Reachable t
  /-- The Host issues its operations by name, and bytes of its notation. -/
  | host {s : State} (h : Reachable s) (ops : List HostOp) (bytes : List Byte) :
      Reachable { s with issued := s.issued ++ ops, hostBytes := s.hostBytes ++ bytes }

end Sys2Proof.Machine
end

