-- ==== Sys2Proof/Certificates/Slice0/Obligations.lean ====
section
/-! DEFINITION. The statements for the provers, from the numbered rules of spec/. Where spec/ marks a rule, or a value in it, as its own
decision or as general knowledge, the model follows it as a rule (entry 18). -/

open Sys2Proof Sys2Proof.Machine

/-! ### Encodings and the step -/

/-- R111, R112, R115, R121, R122, R124, R127: words written out bit by bit from the tables of 30_encoding.md. -/
def Obligations.WrittenWordsDecode : Prop :=
  decode .ph [26] = .ok (.ph26, []) ∧
  decode .hcs [0x57, 0x4C, 0x01] = .ok (.writeReg 0x4C 1, []) ∧
  decode .hcs [0x41, 0xFC, 0x87, 0x5A] = .ok (.aramWrite 0x87FC 0x5A, []) ∧
  decode .hcs [0x4E, 0x80, 0x40, 0x00, 0x00] = .ok (.run 16512, []) ∧
  decode (.ra .read) [0b01101100] = .ok (.flg .read, []) ∧
  decode .flg [0b10100101] = .ok (.flgFields true false true 5, []) ∧
  decode (.gain 3) [0b11100101] = .ok (.gainTwoSlopeIncrease 3 5, []) ∧
  decode (.brrShift 0) [0b11011000] = .ok (.brrShiftInvalid 0 1 2 false false, []) ∧
  decode (.brrEnd 0) [0b10110001] = .ok (.brrTerminator 0 11 0, []) ∧
  decode (.brrData 0) [0x8F] = .ok (.brrData 0 8 15, []) ∧
  decode .echoFrame [0xF0, 0x07, 0x10, 0xF8] = .ok (.echoFrame 0x07F0 0xF810, [])

/-- Decoding an encoded well-formed instruction gives it back, whatever follows it, for every instruction that has an encoding and every
operand its encoding admits (R110 to R129). -/
def Obligations.DecodeOfEncode : Prop :=
  ∀ (i : Instr) (f : Format) (code rest : List Byte),
    wellFormed i = true → encode i = some (f, code) → decode f (code ++ rest) = .ok (i, rest)

/-- The other direction: whatever a format's decoder accepts is the encoding of the instruction it answers, so no word has two meanings in
one format (R110 to R129). -/
def Obligations.EncodeOfDecode : Prop :=
  ∀ (i : Instr) (f : Format) (bytes rest : List Byte),
    decode f bytes = .ok (i, rest) → wellFormed i = true ∧ ∃ code, encode i = some (f, code) ∧ bytes = code ++ rest

/-- R127, R110: which words are rejected: a first byte that is none of the seven commands, a command whose bytes end inside it, a phase
above 31, a register address above 0x7F. -/
def Obligations.WordsRejected : Prop :=
  (∀ (b : Byte) (n : Nat) (rest : List Byte),
    (b, n) ∈ ([(0x57, 2), (0x52, 1), (0x41, 3), (0x61, 2), (0x4E, 4), (0x4D, 1)] : List (Byte × Nat)) → rest.length < n →
      decode .hcs (b :: rest) = .error .truncated) ∧
  (∀ (b : Byte) (rest : List Byte), b ∉ [0x57, 0x52, 0x41, 0x61, 0x4E, 0x5A, 0x4D] → decode .hcs (b :: rest) = .error .notACommand) ∧
  (∀ (b : Byte) (rest : List Byte), 32 ≤ b.toNat → decode .ph (b :: rest) = .error .outOfRange) ∧
  (∀ (acc : RegAccess) (b : Byte) (rest : List Byte), 128 ≤ b.toNat → decode (.ra acc) (b :: rest) = .error .outOfRange) ∧
  (∀ f : Format, decode f [] = .error .truncated)

/-- What a step runs: the oldest operation issued by name; else the decoded next command of a well-formed Host stream, past its bytes;
and with nothing pending from the Host nothing, since the DSP never steps by itself (R360, R409). A tick of a `Run` is the row the phase
word decodes to (R124, R161). The Host can issue its own operations only: a command of its stream is one, and a row, a micro-op and a
data word is none (R360, R373). That operations issued by name come before the stream is the model's choice (entries 5, 6). -/
def Obligations.StepRunsTheDecodedInstruction : Prop :=
  (∀ (s : State) (i : HostOp) (ops : List HostOp), s.issued = i :: ops → step s = exec i.val { s with issued := ops }) ∧
  (∀ (s : State) (is : List Instr) (i : Instr) (rest : List Byte),
    s.issued = [] → s.hostBytes ≠ [] → decodeStream s.hostBytes = .ok is → decode .hcs s.hostBytes = .ok (i, rest) →
      step s = exec i { s with hostBytes := rest }) ∧
  (∀ s : State, s.issued = [] → s.hostBytes = [] → step s = .next s) ∧
  (∀ (s : State) (i : Instr), decode .ph [BitVec.ofNat 8 s.dsp.phase.val] = .ok (i, []) → exec (.run 1) s = exec i s) ∧
  (∀ (bytes : List Byte) (i : Instr) (rest : List Byte), decode .hcs bytes = .ok (i, rest) → hostOperation i = true) ∧
  (∀ p : Fin 32, hostOperation (phaseInstr p) = false) ∧
  (∀ op : MicroOp, hostOperation (microInstr op) = false) ∧
  (∀ (f : Format) (bytes : List Byte) (i : Instr) (rest : List Byte), decode f bytes = .ok (i, rest) → hostOperation i = true →
    f = .hcs ∨ f = .outputPair ∨ ∃ acc, f = .ra acc)

/-- R127: a malformed stream is rejected before any operation of it is issued: the step refuses and runs nothing. That the refusal ends
the run is the model's choice (entry 8). -/
def Obligations.MalformedStreamRefused : Prop :=
  ∀ (s : State) (e : DecodeError),
    s.issued = [] → decodeStream s.hostBytes = .error e → step s = .refused .malformedHostStream

/-- R5, R390, R403: no step ever faults, and a step refuses for two reasons only: a malformed Host stream (entry 8), and a CopyState load
of a stream outside the ranges of `Dsp.Wf`. Those refusals are the model's choices (entries 8, 9). -/
def Obligations.StepStopsOnlyAsNamed : Prop :=
  ∀ s : State,
    (∀ f, step s ≠ .fault f) ∧
    (∀ r, step s = .refused r →
      (r = .malformedHostStream ∧ s.issued = [] ∧ ∃ e, decodeStream s.hostBytes = .error e) ∨
      (r = .foreignStateBytes ∧ ∃ d : Dsp, s.issued.head?.map Subtype.val = some (.copyState (.load d)) ∧ ¬ d.Wf))

/-! ### The phase table and the tick -/

/-- R162: the phase table, row by row: each row runs its micro-ops in the listed order, and the phase moves on. That a micro-op is an
instruction by itself (entry 15), and that a row run at another phase than its own leaves the phase after the row (entry 20), are the
model's choices. -/
def Obligations.RowsRunTheirMicroOps : Prop :=
  RowRuns .ph0 0 [.v5_0, .v2_1] ∧
  RowRuns .ph1 1 [.v6_0, .v3a_1, .v3b_1, .v3c_1] ∧
  RowRuns .ph2 2 [.v7_0, .v4_1, .v1_3] ∧
  RowRuns .ph3 3 [.v8_0, .v5_1, .v2_2] ∧
  RowRuns .ph4 4 [.v9_0, .v6_1, .v3a_2, .v3b_2, .v3c_2] ∧
  RowRuns .ph5 5 [.v7_1, .v4_2, .v1_4] ∧
  RowRuns .ph6 6 [.v8_1, .v5_2, .v2_3] ∧
  RowRuns .ph7 7 [.v9_1, .v6_2, .v3a_3, .v3b_3, .v3c_3] ∧
  RowRuns .ph8 8 [.v7_2, .v4_3, .v1_5] ∧
  RowRuns .ph9 9 [.v8_2, .v5_3, .v2_4] ∧
  RowRuns .ph10 10 [.v9_2, .v6_3, .v3a_4, .v3b_4, .v3c_4] ∧
  RowRuns .ph11 11 [.v7_3, .v4_4, .v1_6] ∧
  RowRuns .ph12 12 [.v8_3, .v5_4, .v2_5] ∧
  RowRuns .ph13 13 [.v9_3, .v6_4, .v3a_5, .v3b_5, .v3c_5] ∧
  RowRuns .ph14 14 [.v7_4, .v4_5, .v1_7] ∧
  RowRuns .ph15 15 [.v8_4, .v5_5, .v2_6] ∧
  RowRuns .ph16 16 [.v9_4, .v6_5, .v3a_6, .v3b_6, .v3c_6] ∧
  RowRuns .ph17 17 [.v1_0, .v7_5, .v4_6] ∧
  RowRuns .ph18 18 [.v8_5, .v5_6, .v2_7] ∧
  RowRuns .ph19 19 [.v9_5, .v6_6, .v3a_7, .v3b_7, .v3c_7] ∧
  RowRuns .ph20 20 [.v1_1, .v7_6, .v4_7] ∧
  RowRuns .ph21 21 [.v8_6, .v5_7, .v2_0] ∧
  RowRuns .ph22 22 [.v3a_0, .v9_6, .v6_7, .e22] ∧
  RowRuns .ph23 23 [.v7_7, .e23] ∧
  RowRuns .ph24 24 [.v8_7, .e24] ∧
  RowRuns .ph25 25 [.v3b_0, .v9_7, .e25] ∧
  RowRuns .ph26 26 [.e26] ∧
  RowRuns .ph27 27 [.m27, .e27] ∧
  RowRuns .ph28 28 [.m28, .e28] ∧
  RowRuns .ph29 29 [.m29, .e29] ∧
  RowRuns .ph30 30 [.m30, .v3c_0, .e30] ∧
  RowRuns .ph31 31 [.v4_0, .v1_2]

/-- R46, R161, R172: `Run(1)` is a tick, the row of the current phase: the phase goes to the next of 0 to 31, wrapping, and everything
that is not the DSP's, ARAM or its output stays. -/
def Obligations.TickAdvancesThePhase : Prop :=
  ∀ s : State, ∃ t, exec (.run 1) s = .next t ∧ exec (phaseInstr s.dsp.phase) s = .next t ∧
    t.dsp.phase.val = (s.dsp.phase.val + 1) % 32 ∧ SameHost s t

/-- R160, R391: `Run(n)` is n ticks one after another, each the row of the phase it meets; splitting a run changes nothing; `Run(0)`
does nothing; a negative count runs no tick and reports F1. -/
def Obligations.RunIsItsTicks : Prop :=
  (∀ s : State, exec (.run 0) s = .next s) ∧
  (∀ (n : Nat) (s : State), ∃ t u, exec (phaseInstr s.dsp.phase) s = .next t ∧ exec (.run n) t = .next u ∧
    exec (.run (n + 1 : Nat)) s = .next u) ∧
  (∀ (a b : Nat) (s : State), ∃ t u, exec (.run a) s = .next t ∧ exec (.run b) t = .next u ∧ exec (.run (a + b : Nat)) s = .next u) ∧
  (∀ (n : Int) (s : State), n < 0 → exec (.run n) s = .next { s with results := s.results ++ [.fault .invalidTicks] })

/-- R171: any 32 consecutive ticks emit exactly one pair, a pair of signed 16-bit values, from every state that meets the invariant; `k`
sample periods emit `k`, and leave the phase where it was. -/
def Obligations.FramesEmitOnePairEach : Prop :=
  ∀ (k : Nat) (s : State), s.Inv → ∃ t xs,
    exec (.frames k) s = .next t ∧ exec (.run (32 * k : Nat)) s = .next t ∧ t.out = s.out ++ xs ∧ xs.length = k ∧
    (∀ x ∈ xs, signed16 x.l ∧ signed16 x.r) ∧
    t.dsp.sampleCount = s.dsp.sampleCount + k ∧ t.dsp.phase = s.dsp.phase

/-- R171: the pair is emitted in row 27: from phase 0, `Run(27)` emits nothing and `Run(28)` emits one pair. -/
def Obligations.PairEmittedAtPhase27 : Prop :=
  ∀ s : State, s.dsp.phase = 0 → ∃ t u x,
    exec (.run 27) s = .next t ∧ t.out = s.out ∧ t.dsp.phase = 27 ∧ exec (.run 28) s = .next u ∧ u.out = s.out ++ [x]

/-- R86, R98: a row writes no byte of ARAM outside the four bytes of the echo frame, and rows other than 29 and 30 write none. -/
def Obligations.TickWritesOnlyTheEchoFrame : Prop :=
  ∀ (p : Fin 32) (s : State), s.aram.Wf → ∃ t,
    exec (phaseInstr p) s = .next t ∧
    (∀ a : Addr, 4 ≤ (a - s.dsp.tEchoPtr).toNat → memRead t.aram a = memRead s.aram a) ∧
    (p ≠ 29 → p ≠ 30 → t.aram = s.aram)

/-! ### The global micro-ops -/

/-- R164, R165: the latches of M27 and M28, and their frame. -/
def Obligations.LatchesOfM27AndM28 : Prop :=
  ∀ s : State,
    exec .m27 s = .next { s with dsp := { s.dsp with tPmon := s.dsp.reg 0x2D &&& 0xFE } } ∧
    exec .m28 s = .next { s with dsp := { s.dsp with
      tNon := s.dsp.reg 0x3D, tEon := s.dsp.reg 0x4D, tDir := s.dsp.reg 0x5D } }

/-- R166: M29 toggles the latch sample, and on a latch sample takes from the pending requests the key-ons already given. -/
def Obligations.M29ShedsTakenKeyOns : Prop :=
  ∀ s : State,
    exec .m29 s = .next { s with dsp := { s.dsp with
      everyOtherSample := !s.dsp.everyOtherSample
      newKon := if s.dsp.everyOtherSample then s.dsp.newKon else s.dsp.newKon &&& ~~~s.dsp.kon } }

/-- R167, R168, R291, R292: M30 latches the keys on a latch sample only, counts down with a wrap to 30719, and steps the noise register
unless it is gated and the new counter does not fire; nothing else changes. -/
def Obligations.M30LatchesCountsAndSteps : Prop :=
  ∀ s : State, ∃ t, exec .m30 s = .next t ∧
    t = { s with dsp := { s.dsp with
      kon := t.dsp.kon, tKoff := t.dsp.tKoff, counter := t.dsp.counter, noise := t.dsp.noise } } ∧
    (s.dsp.everyOtherSample = true → t.dsp.kon = s.dsp.newKon ∧ t.dsp.tKoff = s.dsp.reg 0x5C) ∧
    (s.dsp.everyOtherSample = false → t.dsp.kon = s.dsp.kon ∧ t.dsp.tKoff = s.dsp.tKoff) ∧
    (s.dsp.counter = 0 → t.dsp.counter = 30719) ∧
    (s.dsp.counter ≠ 0 → t.dsp.counter + 1 = s.dsp.counter) ∧
    (if s.params.noiseGated = true ∧ readCounter t.dsp.counter (flgNoiseRate (s.dsp.reg 0x6C)) ≠ 0 then
      t.dsp.noise = s.dsp.noise
    else
      (∀ i : Fin 14, t.dsp.noise.getLsbD i.val = s.dsp.noise.getLsbD (i.val + 1)) ∧
      t.dsp.noise.getLsbD 14 =
        (s.dsp.noise.getLsbD s.params.noiseTaps.1.val ^^ s.dsp.noise.getLsbD s.params.noiseTaps.2.val))

/-- R169 (with the tables of R170): the rate counter's formula; rate 0 never fires, rate 31 fires every sample, every other period divides
30720 and its rate fires once in every run of that many counters, and the pattern is seamless where the counter wraps. -/
def Obligations.RateCounterFires : Prop :=
  (∀ (c : Nat) (r : Fin 32), readCounter c r = (c + rateOffset[r]) % ratePeriod[r] ∧ (fires c r = true ↔ readCounter c r = 0)) ∧
  (∀ c : Nat, c < 30720 → fires c 0 = false) ∧
  (∀ c : Nat, fires c 31 = true) ∧
  (∀ r : Fin 32, r ≠ 0 → 30720 % ratePeriod[r] = 0) ∧
  (∀ (r : Fin 32), r ≠ 0 → ∀ c : Nat, ∃ k : Nat, k < ratePeriod[r] ∧
    ∀ j : Nat, j < ratePeriod[r] → (fires (c + j) r = true ↔ j = k)) ∧
  (∀ (r : Fin 32), r ≠ 0 → ∀ c : Nat, fires (c + 30720) r = fires c r)

/-! ### The voice micro-ops -/

/-- R201: V1 forms the directory address from the source number the previous V1 loaded, then loads SRCN; nothing else changes. -/
def Obligations.V1FormsTheDirectoryAddress : Prop :=
  ∀ (v : VoiceId) (s : State),
    exec (microInstr (.v1 v)) s = .next { s with dsp := { s.dsp with
      tDirAddr := BitVec.ofNat 16 ((s.dsp.tDir.toNat * 0x100 + s.dsp.tSrcn.toNat * 4) % 0x10000)
      tSrcn := s.dsp.reg (vreg v 4) } }

/-- R202: V2 reads the start word during the key-on sequence and else the loop word, each byte address wrapped by itself, and latches
ADSR1 and PITCHL; nothing else changes. -/
def Obligations.V2ReadsTheDirectory : Prop :=
  ∀ (v : VoiceId) (s : State) (a : Addr),
    a = (if (s.dsp.voice v).konDelay = 0 then s.dsp.tDirAddr + 2 else s.dsp.tDirAddr) →
    exec (microInstr (.v2 v)) s = .next { s with dsp := { s.dsp with
      tBrrNextAddr := BitVec.ofNat 16 ((memRead s.aram a).toNat + 0x100 * (memRead s.aram (a + 1)).toNat)
      tAdsr0 := s.dsp.reg (vreg v 5)
      tPitch := ((s.dsp.reg (vreg v 2)).toNat : Int) } }

/-- R203, R204: V3a adds the six high pitch bits; V3b fetches the header and the first byte of the next pair; nothing else changes. -/
def Obligations.V3aAndV3bFetch : Prop :=
  ∀ (v : VoiceId) (s : State),
    exec (microInstr (.v3a v)) s = .next { s with dsp := { s.dsp with
      tPitch := s.dsp.tPitch + ((s.dsp.reg (vreg v 3)).toNat % 0x40 * 0x100 : Nat) } } ∧
    exec (microInstr (.v3b v)) s = .next { s with dsp := { s.dsp with
      tBrrByte := memRead s.aram ((s.dsp.voice v).brrAddr + BitVec.ofNat 16 (s.dsp.voice v).brrOffset)
      tBrrHeader := memRead s.aram (s.dsp.voice v).brrAddr } }

/-- The frame of V3c (R205): it writes the pitch, the output and header latches and its own voice, and of its voice neither the decode
ring nor, outside the first sample of a key-on sequence, the block's place. -/
def Obligations.V3cFrame : Prop :=
  ∀ (v : VoiceId) (s : State), ∃ t, exec (microInstr (.v3c v)) s = .next t ∧
    t = { s with dsp := { s.dsp with
      tPitch := t.dsp.tPitch, tBrrHeader := t.dsp.tBrrHeader, tOutput := t.dsp.tOutput, voices := t.dsp.voices } } ∧
    (∀ w, w ≠ v → t.dsp.voice w = s.dsp.voice w) ∧
    (t.dsp.voice v).buf = (s.dsp.voice v).buf ∧
    ((s.dsp.voice v).konDelay ≠ 5 →
      t.dsp.tBrrHeader = s.dsp.tBrrHeader ∧ (t.dsp.voice v).brrAddr = (s.dsp.voice v).brrAddr ∧
      (t.dsp.voice v).brrOffset = (s.dsp.voice v).brrOffset ∧ (t.dsp.voice v).bufPos = (s.dsp.voice v).bufPos)

/-- R206, R207: the pitch V3c leaves: modulated by the previous output when the voice's PMON bit is latched, and 0 in a key-on
sequence. -/
def Obligations.V3cPitch : Prop :=
  ∀ (v : VoiceId) (s : State), ∃ t, exec (microInstr (.v3c v)) s = .next t ∧
    t.dsp.tPitch =
      if (s.dsp.voice v).konDelay ≠ 0 then 0
      else if s.dsp.tPmon.getLsbD v.val then s.dsp.tPitch + s.dsp.tOutput / 0x20 * s.dsp.tPitch / 0x400
      else s.dsp.tPitch

/-- R207: the key-on sequence: on its first sample the new block is taken and the ring restarted, on every sample the position is forced,
to 0x4000 where the new count is 3, 2 or 1, and the level captured for ENVX is 0, since the capture follows the forced level (R208). -/
def Obligations.V3cKeyOnSequence : Prop :=
  ∀ (v : VoiceId) (s : State), s.dsp.Wf → (s.dsp.voice v).konDelay ≠ 0 →
    ∃ t, exec (microInstr (.v3c v)) s = .next t ∧
      ((s.dsp.voice v).konDelay = 5 →
        (t.dsp.voice v).brrAddr = s.dsp.tBrrNextAddr ∧ (t.dsp.voice v).brrOffset = 1 ∧ (t.dsp.voice v).bufPos = 0 ∧
        t.dsp.tBrrHeader = 0) ∧
      (t.dsp.voice v).interpPos = (if (s.dsp.voice v).konDelay ∈ [2, 3, 4] then 0x4000 else 0) ∧
      t.dsp.tOutput = 0 ∧ t.dsp.tPitch = 0 ∧ (t.dsp.voice v).tEnvxOut = 0

/-- R208, R250, R293: outside a key-on sequence, the output V3c leaves: the noise value where NON is latched, else the four Gaussian taps
with the wrap after three and the clamp after the fourth, times the level before this sample's step; and the level it captures for
ENVX. -/
def Obligations.V3cOutput : Prop :=
  ∀ (v : VoiceId) (s : State) (x : Voice) (off : Fin 256) (base : Nat) (tap : Fin 512 → Nat → Int),
    x = s.dsp.voice v → x.konDelay = 0 → off.val = (x.interpPos / 0x10 % 0x100).toNat →
    base = (x.interpPos / 0x1000).toNat + x.bufPos →
    (∀ i j, tap i j = (s.params.gauss[i].toNat : Int) * x.buf[ringIndex (base + j)] / 0x800) →
    ∃ t, exec (microInstr (.v3c v)) s = .next t ∧
      (t.dsp.voice v).tEnvxOut = BitVec.ofInt 8 (x.env / 0x10) ∧ (t.dsp.voice v).interpPos = x.interpPos ∧
      t.dsp.tOutput = clearLow ((if s.dsp.tNon.getLsbD v.val then sext16 (s.dsp.noise.toNat * 2)
        else clearLow (clamp16 (sext16 (tap (Fin.ofNat 512 (255 - off.val)) 0 + tap (Fin.ofNat 512 (511 - off.val)) 1
          + tap (Fin.ofNat 512 (256 + off.val)) 2) + tap (Fin.ofNat 512 off.val) 3))) * x.env / 0x800)

/-- R209, R210, R211: how V3c ends for the key state of a voice. The level is silenced by FLG bit 7 or an end-without-loop header (the
header is taken as 0 on the first sample of a key-on sequence) and by the key-on sequence; the key latch acts on latch samples only, key-on
over key-off; and the envelope runs exactly when the key-on count is then 0, on the silenced level and the latched mode. -/
def Obligations.V3cKeysAndEnvelope : Prop :=
  ∀ (v : VoiceId) (s : State) (x y : Voice) (silenced latched : Bool),
    x = s.dsp.voice v →
    silenced = (decide (128 ≤ (s.dsp.reg 0x6C).toNat) || (decide (x.konDelay ≠ 5) && decide (s.dsp.tBrrHeader.toNat % 4 = 1))) →
    latched = (s.dsp.everyOtherSample && s.dsp.kon.getLsbD v.val) →
    y = { x with
      env := if silenced = true ∨ x.konDelay ≠ 0 then 0 else x.env
      hiddenEnv := if x.konDelay ≠ 0 then 0 else x.hiddenEnv
      konDelay := if latched then 5 else x.konDelay - 1
      envMode :=
        if latched then .attack
        else if silenced = true ∨ (s.dsp.everyOtherSample = true ∧ s.dsp.tKoff.getLsbD v.val = true) then .release
        else x.envMode } →
    ∃ t z, exec (microInstr (.v3c v)) s = .next t ∧ z = t.dsp.voice v ∧ z.konDelay = y.konDelay ∧
      (y.konDelay ≠ 0 → z.env = y.env ∧ z.hiddenEnv = y.hiddenEnv ∧ z.envMode = y.envMode) ∧
      (y.konDelay = 0 → ∃ w,
        EnvelopeRan s.params s.dsp.counter s.dsp.tAdsr0 (s.dsp.reg (vreg v 6)) (s.dsp.reg (vreg v 7)) y w ∧
        z.env = w.env ∧ z.hiddenEnv = w.hiddenEnv ∧ z.envMode = w.envMode)

/-- R212, R214, R215, R240, R213: V4: a group is decoded when four samples have been consumed, from the byte V3b fetched and the one after
it, and the block advances; the position advances with a mask and a saturation; the left mix. Nothing else changes. -/
def Obligations.V4DecodesAdvancesAndMixes : Prop :=
  ∀ (v : VoiceId) (s : State) (x : Voice) (amp : Int), x = s.dsp.voice v →
    amp = (if s.dsp.muteMask.getLsbD v.val then 0 else s.dsp.tOutput * sext8 (s.dsp.reg (vreg v 0)) / 0x80) →
    ∃ t y, exec (microInstr (.v4 v)) s = .next t ∧ y = t.dsp.voice v ∧
      t = { s with dsp := { s.dsp with
        tLooped := t.dsp.tLooped, voices := t.dsp.voices
        tMainOut := { s.dsp.tMainOut with l := clamp16 (s.dsp.tMainOut.l + amp) }
        tEchoOut := if s.dsp.tEon.getLsbD v.val then { s.dsp.tEchoOut with l := clamp16 (s.dsp.tEchoOut.l + amp) }
          else s.dsp.tEchoOut } } ∧
      (∀ w, w ≠ v → t.dsp.voice w = s.dsp.voice w) ∧
      y.interpPos = min (x.interpPos % 0x4000 + s.dsp.tPitch) 0x7FFF ∧
      (x.interpPos < 0x4000 → t.dsp.tLooped = 0 ∧ y = { x with interpPos := y.interpPos }) ∧
      (0x4000 ≤ x.interpPos →
        DecodedGroup s.dsp.tBrrHeader s.dsp.tBrrByte (memRead s.aram (x.brrAddr + BitVec.ofNat 16 (x.brrOffset + 1))) x.bufPos
          x.buf y.buf ∧
        y = { x with
          buf := y.buf, interpPos := y.interpPos
          bufPos := (x.bufPos + 4) % 12
          brrOffset := if x.brrOffset + 2 < 9 then x.brrOffset + 2 else 1
          brrAddr := if x.brrOffset + 2 < 9 then x.brrAddr
            else if s.dsp.tBrrHeader.getLsbD 0 then s.dsp.tBrrNextAddr else x.brrAddr + 9 } ∧
        t.dsp.tLooped = if 9 ≤ x.brrOffset + 2 ∧ s.dsp.tBrrHeader.getLsbD 0 = true then BitVec.ofNat 8 (2 ^ v.val) else 0)

/-- R215, R216: V5: the right mix, and the end flags staged, less the voice's own on the sample it was keyed on; nothing else changes. -/
def Obligations.V5MixesAndStagesEndx : Prop :=
  ∀ (v : VoiceId) (s : State) (amp : Int),
    amp = (if s.dsp.muteMask.getLsbD v.val then 0 else s.dsp.tOutput * sext8 (s.dsp.reg (vreg v 1)) / 0x80) →
    ∃ t, exec (microInstr (.v5 v)) s = .next t ∧
      t = { s with dsp := { s.dsp with
        endxBuf := t.dsp.endxBuf
        tMainOut := { s.dsp.tMainOut with r := clamp16 (s.dsp.tMainOut.r + amp) }
        tEchoOut := if s.dsp.tEon.getLsbD v.val then { s.dsp.tEchoOut with r := clamp16 (s.dsp.tEchoOut.r + amp) }
          else s.dsp.tEchoOut } } ∧
      ∀ w : VoiceId, t.dsp.endxBuf.getLsbD w.val =
        (((s.dsp.reg 0x7C).getLsbD w.val || s.dsp.tLooped.getLsbD w.val) &&
          !(decide (w = v) && decide ((s.dsp.voice v).konDelay = 5)))

/-- R217 to R220: V6 to V9 stage and publish OUTX, ENDX and ENVX; each writes the fields named and nothing else. -/
def Obligations.MonitorPipeline : Prop :=
  ∀ (v : VoiceId) (s : State),
    exec (microInstr (.v6 v)) s = .next { s with dsp := { s.dsp with outxBuf := BitVec.ofInt 8 (s.dsp.tOutput / 0x100) } } ∧
    exec (microInstr (.v7 v)) s = .next { s with dsp := { s.dsp with
      regs := s.dsp.regs.set 0x7C s.dsp.endxBuf, envxBuf := (s.dsp.voice v).tEnvxOut } } ∧
    exec (microInstr (.v8 v)) s = .next { s with dsp := { s.dsp with regs := s.dsp.regs.set (vreg v 9) s.dsp.outxBuf } } ∧
    exec (microInstr (.v9 v)) s = .next { s with dsp := { s.dsp with regs := s.dsp.regs.set (vreg v 8) s.dsp.envxBuf } }

/-! ### The echo unit -/

/-- R301 to R305: E22 advances the history, addresses the frame, reads its left word and starts the FIR sum; E23 adds two taps and reads
the right word; E24 adds three. A tap is the product of a history entry and a signed coefficient, each shifted by itself. -/
def Obligations.EchoReadsAndSums : Prop :=
  ∀ (s : State) (tap : Dsp → Nat → Chan → Int),
    (∀ (d : Dsp) (i : Nat) (ch : Chan), tap d i ch =
      (d.echoHist[d.echoHistPos + Fin.ofNat 8 (i + 1)].get ch) * sext8 (d.reg (vreg (Fin.ofNat 8 i) 15)) / 0x40) →
    (∀ pos : Fin 8, pos = s.dsp.echoHistPos + 1 → ∃ t ptr, exec .e22 s = .next t ∧
      ptr = BitVec.ofNat 16 ((s.dsp.tEsa.toNat * 0x100 + s.dsp.echoOffset) % 0x10000) ∧
      t = { s with dsp := { s.dsp with
        echoHistPos := pos
        tEchoPtr := ptr
        echoHist := s.dsp.echoHist.set pos
          { s.dsp.echoHist[pos] with
            l := sext16 ((memRead s.aram ptr).toNat + 0x100 * (memRead s.aram (ptr + 1)).toNat) / 2 }
        tEchoIn := ⟨tap t.dsp 0 .left, tap t.dsp 0 .right⟩ } }) ∧
    exec .e23 s = .next { s with dsp := { s.dsp with
      tEchoIn := ⟨s.dsp.tEchoIn.l + tap s.dsp 1 .left + tap s.dsp 2 .left,
                  s.dsp.tEchoIn.r + tap s.dsp 1 .right + tap s.dsp 2 .right⟩
      echoHist := s.dsp.echoHist.set s.dsp.echoHistPos
        { s.dsp.echoHist[s.dsp.echoHistPos] with
          r := sext16 ((memRead s.aram (s.dsp.tEchoPtr + 2)).toNat + 0x100 * (memRead s.aram (s.dsp.tEchoPtr + 3)).toNat) / 2 } } } ∧
    exec .e24 s = .next { s with dsp := { s.dsp with
      tEchoIn := ⟨s.dsp.tEchoIn.l + tap s.dsp 3 .left + tap s.dsp 4 .left + tap s.dsp 5 .left,
                  s.dsp.tEchoIn.r + tap s.dsp 3 .right + tap s.dsp 4 .right + tap s.dsp 5 .right⟩ } }

/-- R306 (the wrap is marked 'from general knowledge' there, entry 18): E25: the sum of seven taps wraps to 16 bits, the
eighth is wrapped by itself and added, the result clamped and made even. -/
def Obligations.E25WrapsThenClamps : Prop :=
  ∀ (s : State) (tap : Nat → Chan → Int),
    (∀ (i : Nat) (ch : Chan), tap i ch =
      (s.dsp.echoHist[s.dsp.echoHistPos + Fin.ofNat 8 (i + 1)].get ch) * sext8 (s.dsp.reg (vreg (Fin.ofNat 8 i) 15)) / 0x40) →
    exec .e25 s = .next { s with dsp := { s.dsp with
      tEchoIn := ⟨clearLow (clamp16 (sext16 (s.dsp.tEchoIn.l + tap 6 .left) + sext16 (tap 7 .left))),
                  clearLow (clamp16 (sext16 (s.dsp.tEchoIn.r + tap 6 .right) + sext16 (tap 7 .right)))⟩ } }

/-- R307, R308, R316: E26: the left output parked, and the feedback added to the echo input, clamped and made even on both channels. -/
def Obligations.E26OutputsAndFeedsBack : Prop :=
  ∀ (s : State) (vol : Int → Int),
    (∀ x, vol x = if s.params.volumeProductWrap then sext16 x else clamp16 x) →
    exec .e26 s = .next { s with dsp := { s.dsp with
      tMainOut := { s.dsp.tMainOut with
        l := clamp16 (vol (s.dsp.tMainOut.l * sext8 (s.dsp.reg 0x0C) / 0x80) + vol (s.dsp.tEchoIn.l * sext8 (s.dsp.reg 0x2C) / 0x80)) }
      tEchoOut := ⟨clearLow (clamp16 (s.dsp.tEchoOut.l + vol (s.dsp.tEchoIn.l * sext8 (s.dsp.reg 0x0D) / 0x80))),
                   clearLow (clamp16 (s.dsp.tEchoOut.r + vol (s.dsp.tEchoIn.r * sext8 (s.dsp.reg 0x0D) / 0x80)))⟩ } }

/-- R309, R307, R316: E27 emits the pair, (0, 0) under FLG bit 6, counts it and restarts the main mix. -/
def Obligations.E27EmitsThePair : Prop :=
  ∀ (s : State) (vol : Int → Int),
    (∀ x, vol x = if s.params.volumeProductWrap then sext16 x else clamp16 x) →
    exec .e27 s = .next { s with
      out := s.out ++ [if (s.dsp.reg 0x6C).getLsbD 6 then ⟨0, 0⟩ else
        ⟨s.dsp.tMainOut.l, clamp16 (vol (s.dsp.tMainOut.r * sext8 (s.dsp.reg 0x1C) / 0x80)
          + vol (s.dsp.tEchoIn.r * sext8 (s.dsp.reg 0x3C) / 0x80))⟩]
      dsp := { s.dsp with tMainOut := ⟨0, 0⟩, sampleCount := s.dsp.sampleCount + 1 } }

/-- R310, R311: E28 copies FLG; E29 latches ESA, and EDL at offset 0 only, advances the ring by 4 with its wrap, clears the left
accumulator and copies FLG again. What E29 stores in ARAM is EchoWritesTheirWord. -/
def Obligations.E28AndE29Ring : Prop :=
  ∀ (s : State) (len : Nat),
    len = (if s.dsp.echoOffset = 0 then (s.dsp.reg 0x7D).toNat % 16 * 0x800 else s.dsp.echoLength) →
    exec .e28 s = .next { s with dsp := { s.dsp with tEchoEnabled := s.dsp.reg 0x6C } } ∧
    ∃ t, exec .e29 s = .next t ∧ t = { s with
      aram := t.aram
      dsp := { s.dsp with
        tEsa := s.dsp.reg 0x6D
        echoLength := len
        echoOffset := if len ≤ s.dsp.echoOffset + 4 then 0 else s.dsp.echoOffset + 4
        tEchoOut := { s.dsp.tEchoOut with l := 0 }
        tEchoEnabled := s.dsp.reg 0x6C } }

/-- R312, R313: the two echo writes: each stores its word, low byte first, at the frame read this sample, unless the latched FLG bit 5 is
set; every other byte of ARAM reads as before; each clears its accumulator whether or not it writes, and E30 changes nothing else. -/
def Obligations.EchoWritesTheirWord : Prop :=
  ∀ s : State, s.aram.Wf → ∃ t u,
    exec .e29 s = .next t ∧ exec .e30 s = .next u ∧
    t.dsp.tEchoOut = { s.dsp.tEchoOut with l := 0 } ∧
    u = { s with aram := u.aram, dsp := { s.dsp with tEchoOut := { s.dsp.tEchoOut with r := 0 } } } ∧
    (s.dsp.tEchoEnabled.getLsbD 5 = true → t.aram = s.aram ∧ u.aram = s.aram) ∧
    (s.dsp.tEchoEnabled.getLsbD 5 = false → ∀ a : Addr,
      memRead t.aram a =
        (if a = s.dsp.tEchoPtr then BitVec.ofInt 8 s.dsp.tEchoOut.l
        else if a = s.dsp.tEchoPtr + 1 then BitVec.ofInt 8 (s.dsp.tEchoOut.l / 0x100)
        else memRead s.aram a) ∧
      memRead u.aram a =
        (if a = s.dsp.tEchoPtr + 2 then BitVec.ofInt 8 s.dsp.tEchoOut.r
        else if a = s.dsp.tEchoPtr + 3 then BitVec.ofInt 8 (s.dsp.tEchoOut.r / 0x100)
        else memRead s.aram a))

/-! ### The Host's operations -/

/-- R362, R364 to R366, R394: a register write stores its byte, with the side effects on the staging buffers, KON and ENDX, and changes
nothing else; a bad address or bad data reports F5 once and changes nothing. -/
def Obligations.WriteRegStores : Prop :=
  ∀ (addr data : Int) (s : State),
    if 0 ≤ addr ∧ addr < 128 ∧ 0 ≤ data ∧ data < 256 then
      ∃ t, exec (.writeReg addr data) s = .next t ∧
        t = { s with dsp := { s.dsp with
          regs := t.dsp.regs
          envxBuf := if addr % 16 = 8 then BitVec.ofInt 8 data else s.dsp.envxBuf
          outxBuf := if addr % 16 = 9 then BitVec.ofInt 8 data else s.dsp.outxBuf
          newKon := if addr = 0x4C then BitVec.ofInt 8 data else s.dsp.newKon
          endxBuf := if addr = 0x7C then 0 else s.dsp.endxBuf } } ∧
        ∀ a : RegAddr, t.dsp.reg a =
          if (a.val : Int) = addr then (if addr = 0x7C then 0 else BitVec.ofInt 8 data) else s.dsp.reg a
    else exec (.writeReg addr data) s = .next { s with results := s.results ++ [.fault .invalidRegisterAccess] }

/-- R363, R394: a register read reports the byte and changes nothing else; an address off the bus reports F5. -/
def Obligations.ReadRegReports : Prop :=
  ∀ (addr : Int) (s : State),
    (∀ a : RegAddr, (a.val : Int) = addr →
      exec (.readReg addr) s = .next { s with results := s.results ++ [.byte (s.dsp.reg a)] }) ∧
    ((addr < 0 ∨ 128 ≤ addr) → exec (.readReg addr) s = .next { s with results := s.results ++ [.fault .invalidRegisterAccess] })

/-- R111: every one of the 128 register addresses, taken as an instruction, is the Host's access to that address: a read or a write there
(entry 13 makes a register's row an access). -/
def Obligations.RegisterRowsAccessTheirAddress : Prop :=
  ∀ (x : Fin 8) (r : Fin 16) (s : State),
    (∃ t, exec (regRow .read x r) s = .next t ∧ exec (.readReg (16 * x.val + r.val : Nat)) s = .next t) ∧
    (∀ b : Byte, ∃ t, exec (regRow (.write b) x r) s = .next t ∧ exec (.writeReg (16 * x.val + r.val : Nat) b.toNat) s = .next t)

/-- R81, R367: the Host's ARAM write changes exactly the addressed byte, and nothing else of the state; its read reports the byte and
changes nothing. -/
def Obligations.HostReadsAndWritesAram : Prop :=
  ∀ (a : Addr) (b : Byte) (s : State), s.aram.Wf →
    (∃ t, exec (.aramWrite a b) s = .next t ∧ t = { s with aram := t.aram } ∧
      ∀ x : Addr, memRead t.aram x = if x = a then b else memRead s.aram x) ∧
    exec (.aramRead a) s = .next { s with results := s.results ++ [.byte (memRead s.aram a)] }

/-- R368: `MuteVoices` sets the mask and nothing else; a masked voice then adds nothing to either mix at its V4 and V5. -/
def Obligations.MuteVoicesSilences : Prop :=
  ∀ (mask : Int) (v : VoiceId) (s : State), ∃ t u w,
    exec (.muteVoices mask) s = .next t ∧ t = { s with dsp := { s.dsp with muteMask := BitVec.ofInt 8 mask } } ∧
    exec (microInstr (.v4 v)) t = .next u ∧ exec (microInstr (.v5 v)) t = .next w ∧
    (t.dsp.muteMask.getLsbD v.val = true → signed16 s.dsp.tMainOut.l → signed16 s.dsp.tMainOut.r →
      signed16 s.dsp.tEchoOut.l → signed16 s.dsp.tEchoOut.r →
      u.dsp.tMainOut = t.dsp.tMainOut ∧ u.dsp.tEchoOut = t.dsp.tEchoOut ∧ w.dsp.tMainOut = t.dsp.tMainOut ∧ w.dsp.tEchoOut = t.dsp.tEchoOut)

/-- R420, R70 ("the individual values are the spec's decision", R420's own words, entry 18): what `Reset` leaves, field by field, from
any state; ARAM, the mute mask, the resampler and the parameters stay. -/
def Obligations.ResetLeaves : Prop :=
  ∀ s : State, ∃ t, exec .reset s = .next t ∧
    t = { s with dsp := t.dsp, out := [] } ∧
    (∀ a : RegAddr, t.dsp.reg a = s.params.resetImage[a]) ∧
    (t.dsp.phase = 0 ∧ t.dsp.counter = 0 ∧ t.dsp.everyOtherSample = true) ∧
    (t.dsp.newKon = s.params.resetImage[0x4C] ∧ t.dsp.kon = 0 ∧ t.dsp.tKoff = 0) ∧
    (t.dsp.noise = 0x4000 ∧ (∀ i : Fin 8, t.dsp.echoHist[i] = ⟨0, 0⟩) ∧ t.dsp.echoHistPos = 0) ∧
    (t.dsp.echoOffset = 0 ∧ t.dsp.echoLength = 0) ∧
    (t.dsp.tPmon = 0 ∧ t.dsp.tNon = 0 ∧ t.dsp.tEon = 0 ∧ t.dsp.tEchoEnabled = 0) ∧
    (t.dsp.tDir = s.params.resetImage[0x5D] ∧ t.dsp.tEsa = s.params.resetImage[0x6D]) ∧
    (t.dsp.tSrcn = 0 ∧ t.dsp.tDirAddr = 0 ∧ t.dsp.tBrrNextAddr = 0 ∧ t.dsp.tAdsr0 = 0 ∧ t.dsp.tPitch = 0) ∧
    (t.dsp.tBrrHeader = 0 ∧ t.dsp.tBrrByte = 0 ∧ t.dsp.tOutput = 0 ∧ t.dsp.tLooped = 0 ∧ t.dsp.tEchoPtr = 0) ∧
    (t.dsp.tMainOut = ⟨0, 0⟩ ∧ t.dsp.tEchoOut = ⟨0, 0⟩ ∧ t.dsp.tEchoIn = ⟨0, 0⟩) ∧
    (t.dsp.endxBuf = 0 ∧ t.dsp.envxBuf = 0 ∧ t.dsp.outxBuf = 0) ∧
    t.dsp.sampleCount = 0 ∧ t.dsp.muteMask = s.dsp.muteMask ∧
    ∀ v : VoiceId,
      (∀ i : Fin 12, (t.dsp.voice v).buf[i] = 0) ∧ (t.dsp.voice v).bufPos = 0 ∧ (t.dsp.voice v).interpPos = 0 ∧
      (t.dsp.voice v).brrAddr = 0 ∧ (t.dsp.voice v).brrOffset = 1 ∧ (t.dsp.voice v).konDelay = 0 ∧
      (t.dsp.voice v).envMode = .release ∧ (t.dsp.voice v).env = 0 ∧ (t.dsp.voice v).hiddenEnv = 0 ∧
      (t.dsp.voice v).tEnvxOut = 0

/-- R361, R392: `Construct` binds an ARAM of 0x10000 bytes, whose bytes the DSP then reads, clears the mute mask and resets; with no ARAM
or one of another length it reports F2 and changes nothing. That a listed byte is the last listed for its address, and an unlisted one
0, is the form of the model's operand (entry 30). -/
def Obligations.ConstructBindsAram : Prop :=
  ∀ s : State,
    exec (.construct none) s = .next { s with results := s.results ++ [.fault .invalidAram] } ∧
    ∀ image : AramImage,
      (image.size ≠ 0x10000 → exec (.construct (some image)) s = .next { s with results := s.results ++ [.fault .invalidAram] }) ∧
      (image.size = 0x10000 → ∃ t u,
        exec .reset { s with dsp := { s.dsp with muteMask := 0 } } = .next u ∧
        exec (.construct (some image)) s = .next t ∧ t = { u with aram := t.aram } ∧ t.aram.Wf ∧
        ∀ a : Addr, memRead t.aram a =
          ((image.cells.reverse.find? (fun c => decide (c.1 % 0x10000 = a.toNat))).map Prod.snd).getD 0)

/-- R370: saving changes nothing of the DSP and returns its record; loading a record, this save's or an earlier one's, in any state, gives
back every field and touches neither ARAM nor the output; saving again gives the same record. That a load outside the ranges of `Dsp.Wf`
is refused is the model's choice (entry 9). -/
def Obligations.CopyStateRoundTrip : Prop :=
  ∀ s : State,
    exec (.copyState .save) s = .next { s with results := s.results ++ [.stream s.dsp] } ∧
    (∀ d : Dsp, d.Wf → exec (.copyState (.load d)) s = .next { s with dsp := d } ∧
      execAll [.copyState (.load d), .copyState .save] s = .next { s with dsp := d, results := s.results ++ [.stream d] }) ∧
    (∀ d : Dsp, ¬ d.Wf → exec (.copyState (.load d)) s = .refused .foreignStateBytes)

/-- R128: every pseudo-command has the effect of its expansion, command after command. -/
def Obligations.PseudoCommandsExpand : Prop :=
  ∀ s : State,
    (∀ k : Nat, ∃ t, exec (.frames k) s = .next t ∧ execAll [.run (32 * k : Nat)] s = .next t) ∧
    (∃ t, exec .init s = .next t ∧
      execAll (.reset :: ((List.range 128).map (fun a => Instr.writeReg a 0) ++ [.writeReg 0x6C 0x20])) s = .next t) ∧
    (∀ (v : VoiceId) (p : BitVec 16), ∃ t, exec (.pitch v p) s = .next t ∧
      execAll [.writeReg (16 * v.val + 2 : Nat) (p.toNat % 256 : Nat), .writeReg (16 * v.val + 3 : Nat) (p.toNat / 256 : Nat)] s = .next t) ∧
    (∀ mm : Byte, ∃ t, exec (.keyOn mm) s = .next t ∧ exec (.writeReg 0x4C mm.toNat) s = .next t) ∧
    (∀ mm : Byte, ∃ t, exec (.keyOff mm) s = .next t ∧ exec (.writeReg 0x5C mm.toNat) s = .next t) ∧
    (∀ (pp nn : Byte) (ssss llll : BitVec 16) (a : Addr), a = BitVec.ofNat 16 (0x100 * pp.toNat + 4 * nn.toNat) →
      ∃ t, exec (.dirEnt pp nn ssss llll) s = .next t ∧
        execAll [.aramWrite a (ssss.extractLsb' 0 8), .aramWrite (a + 1) (ssss.extractLsb' 8 8),
          .aramWrite (a + 2) (llll.extractLsb' 0 8), .aramWrite (a + 3) (llll.extractLsb' 8 8)] s = .next t) ∧
    (∀ (a : Addr) (b : Vector Byte 9), ∃ t, exec (.brrBlock a b) s = .next t ∧
      execAll [.aramWrite a b[0], .aramWrite (a + 1) b[1], .aramWrite (a + 2) b[2], .aramWrite (a + 3) b[3], .aramWrite (a + 4) b[4],
        .aramWrite (a + 5) b[5], .aramWrite (a + 6) b[6], .aramWrite (a + 7) b[7], .aramWrite (a + 8) b[8]] s = .next t)

/-! ### The output resampler -/

/-- R331, R335, R338, R339, R393, R396: the operations that start a resampler afresh: construction and `Resize` give the capacity, the
setter the ratio, and each then clears; a negative size reports F3 and a ratio that is not positive F6, with nothing changed. -/
def Obligations.ResamplerClears : Prop :=
  ∀ (n : Int) (q : Rat) (s : State) (cleared : Nat → Rat → Resampler),
    (∀ k r, cleared k r = ⟨List.replicate k 0, 0, 0, r, 1, ⟨0, 0, 0, 0⟩, ⟨0, 0, 0, 0⟩⟩) →
    (if n < 0 then exec (.resamplerConstruct n) s = .next { s with results := s.results ++ [.fault .negativeBufferSize] } ∧
        exec (.resize n) s = .next { s with results := s.results ++ [.fault .negativeBufferSize] }
      else exec (.resamplerConstruct n) s = .next { s with resampler := cleared n.toNat 1 } ∧
        exec (.resize n) s = .next { s with resampler := cleared n.toNat s.resampler.step }) ∧
    (if q ≤ 0 then exec (.setTimeRatio q) s = .next { s with results := s.results ++ [.fault .invalidTimeRatio] }
      else exec (.setTimeRatio q) s = .next { s with resampler := cleared s.resampler.buffer.length q }) ∧
    exec .clear s = .next { s with resampler := cleared s.resampler.buffer.length s.resampler.step } ∧
    exec .cacheSilence s = .next { s with resampler :=
      { cleared s.resampler.buffer.length s.resampler.step with size := s.resampler.buffer.length } }

/-- R336, R337: what `GetTimeRatio` and `Available` report; neither changes anything else. -/
def Obligations.ResamplerQueries : Prop :=
  ∀ s : State,
    exec .getTimeRatio s = .next { s with results := s.results ++ [.ratio s.resampler.step] } ∧
    ∃ n : Int, exec .available s = .next { s with results := s.results ++ [.count (2 * n)] } ∧ 0 ≤ n ∧
      (0 < s.resampler.step →
        ((n : Rat) * s.resampler.step ≤ (s.resampler.size / 4 : Nat) - s.resampler.frac ∨ n = 0) ∧
        ((s.resampler.size / 4 : Nat) - s.resampler.frac < ((n + 1 : Int) : Rat) * s.resampler.step))

/-- R332: `Push` stores all its bytes after the stored ones, each index modulo the capacity, and reports true, exactly when there is room;
else it reports false and changes nothing. Every other byte of the buffer, and everything else, stays. -/
def Obligations.PushStoresAllOrNothing : Prop :=
  ∀ (bytes : List Byte) (s : State), s.resampler.Wf →
    if s.resampler.buffer.length - s.resampler.size < bytes.length then
      exec (.push bytes) s = .next { s with results := s.results ++ [.accepted false] }
    else ∃ t, exec (.push bytes) s = .next t ∧
      t = { s with
        results := s.results ++ [.accepted true]
        resampler := { s.resampler with buffer := t.resampler.buffer, size := s.resampler.size + bytes.length } } ∧
      t.resampler.buffer.length = s.resampler.buffer.length ∧
      (∀ k : Nat, k < bytes.length →
        t.resampler.buffer[(s.resampler.start + s.resampler.size + k) % s.resampler.buffer.length]? = bytes[k]?) ∧
      (∀ j : Nat, j < s.resampler.buffer.length →
        (∀ k : Nat, k < bytes.length → j ≠ (s.resampler.start + s.resampler.size + k) % s.resampler.buffer.length) →
        t.resampler.buffer[j]? = s.resampler.buffer[j]?)

/-- R333, R334, R400: `Read` frame by frame. With no whole frame stored it delivers nothing and changes nothing. Entered with the position
above 1 it takes input frames first, one at a time and with no output. With the position at most 1, `Read` of two samples delivers the
two Hermite values at that position, clamped, and moves the position by the ratio, taking one input frame when that passes 1. -/
def Obligations.ReadOneFrame : Prop :=
  ∀ (s : State) (r : Resampler) (pulled : Rat → Resampler) (h : Rat → History → Int) (byte : Nat → Byte) (x y : Int),
    r = s.resampler →
    (r.size < 4 → ∀ k : Int, exec (.readSamples k) s = .next { s with results := s.results ++ [.samples []] }) ∧
    (r.Wf → 4 ≤ r.size →
      (∀ mu g, ∃ value : Rat, h mu g = value.num.tdiv value.den ∧
        value = (2 * mu ^ 3 - 3 * mu ^ 2 + 1) * g.b + (mu ^ 3 - 2 * mu ^ 2 + mu) * (((g.c : Rat) - g.a) / 2)
          + (mu ^ 3 - mu ^ 2) * (((g.d : Rat) - g.b) / 2) + (-2 * mu ^ 3 + 3 * mu ^ 2) * g.c) →
      (∀ i, i < 4 → r.buffer[(r.start + i) % r.buffer.length]? = some (byte i)) →
      x = sext16 ((byte 0).toNat + 0x100 * (byte 1).toNat) → y = sext16 ((byte 2).toNat + 0x100 * (byte 3).toNat) →
      (∀ position, pulled position = { r with
        frac := position - 1
        start := (r.start + 4) % r.buffer.length
        size := r.size - 4
        left := ⟨r.left.b, r.left.c, r.left.d, x⟩
        right := ⟨r.right.b, r.right.c, r.right.d, y⟩ }) →
      (1 < r.frac → ∀ k : Int, 2 ≤ k → exec (.readSamples k) s = exec (.readSamples k) { s with resampler := pulled r.frac }) ∧
      (r.frac ≤ 1 → exec (.readSamples 2) s = .next { s with
        results := s.results ++ [.samples [clamp16 (h r.frac r.left), clamp16 (h r.frac r.right)]]
        resampler := if r.frac + r.step ≤ 1 then { r with frac := r.frac + r.step } else pulled (r.frac + r.step) }))

/-- R333: `Read` delivers whole frames, never more than asked; an odd count is rounded down and a negative one is none; and reading in two
pieces gives what reading at once gives. -/
def Obligations.ReadInPieces : Prop :=
  ∀ (m n : Nat) (k : Int) (s : State), s.resampler.Wf →
    (∃ t xs, exec (.readSamples k) s = .next t ∧ t = { s with resampler := t.resampler, results := s.results ++ [.samples xs] } ∧
      (xs.length : Int) ≤ max k 0 ∧ xs.length % 2 = 0 ∧ (k ≤ 1 → xs = [] ∧ t.resampler = s.resampler) ∧
      exec (.readSamples (2 * (k / 2))) s = .next t) ∧
    ∃ t u w xs ys,
      exec (.readSamples (2 * m : Nat)) s = .next t ∧ t.results = s.results ++ [.samples xs] ∧
      exec (.readSamples (2 * n : Nat)) t = .next u ∧ u.results = t.results ++ [.samples ys] ∧
      exec (.readSamples (2 * (m + n) : Nat)) s = .next w ∧ w.results = s.results ++ [.samples (xs ++ ys)] ∧ w.resampler = u.resampler

/-- R340: `CacheSilence` clears the resampler and takes its buffer as full of the zeros that leaves; at ratio 1 reading its N whole frames
then yields exactly N zero-valued frames, with no drift. -/
def Obligations.CacheSilenceReadsZeros : Prop :=
  ∀ (s : State) (cap : Nat), cap = s.resampler.buffer.length →
    ∃ t, exec .cacheSilence s = .next t ∧
      t = { s with resampler := ⟨List.replicate cap 0, 0, cap, s.resampler.step, 1, ⟨0, 0, 0, 0⟩, ⟨0, 0, 0, 0⟩⟩ } ∧
      (s.resampler.step = 1 → ∃ u, exec (.readSamples (2 * (cap / 4) : Nat)) t = .next u ∧
        u = { t with resampler := u.resampler, results := s.results ++ [.samples (List.replicate (2 * (cap / 4)) 0)] } ∧
        u.resampler.size = cap % 4 ∧ u.resampler.frac = 1 ∧ u.resampler.left = ⟨0, 0, 0, 0⟩ ∧ u.resampler.right = ⟨0, 0, 0, 0⟩)

/-! ### The byte formats as instructions (entry 14) -/

/-- R112, R116, R119, R122, R123, R129: the formats whose unit takes the word in one read: FLG, the pitch pair's high byte, a directory
entry, an echo frame, an output pair. That a word of data is taken once is the model's reading of its row (entry 14). -/
def Obligations.DataWordsAreTaken : Prop :=
  ∀ (s : State) (v : VoiceId),
    (∀ (r m e : Bool) (n : BitVec 5), ∃ b : Byte, b.toNat = r.toNat * 128 + m.toNat * 64 + e.toNat * 32 + n.toNat ∧
      exec (.flgFields r m e n) s = .next { s with dsp := { s.dsp with regs := s.dsp.regs.set 0x6C b } }) ∧
    (∀ (x : BitVec 2) (p : BitVec 6), ∃ b : Byte, b.toNat = x.toNat * 64 + p.toNat ∧
      exec (.pitchhFields v x p) s = .next { s with dsp := { s.dsp with
        regs := s.dsp.regs.set (vreg v 3) b, tPitch := s.dsp.tPitch + (p.toNat * 0x100 : Nat) } }) ∧
    (∀ start loopAddr : BitVec 16, exec (.directoryEntry v start loopAddr) s = .next { s with dsp := { s.dsp with
      tBrrNextAddr := if (s.dsp.voice v).konDelay = 0 then loopAddr else start } }) ∧
    (∀ left right : BitVec 16, exec (.echoFrame left right) s = .next { s with dsp := { s.dsp with
      echoHist := s.dsp.echoHist.set s.dsp.echoHistPos ⟨left.toInt / 2, right.toInt / 2⟩ } }) ∧
    (∀ left right : BitVec 16, ∃ t, exec (.outputPair left right) s = .next t ∧
      exec (.push [left.extractLsb' 0 8, left.extractLsb' 8 8, right.extractLsb' 0 8, right.extractLsb' 8 8]) s = .next t)

/-- R113, R114, R261 to R265, R262: an ADSR byte as an instruction: the byte in the place its unit reads it, and one envelope run with
it; nothing but the voice changes besides (entry 14). -/
def Obligations.AdsrWordsRunTheEnvelope : Prop :=
  ∀ (s : State) (v : VoiceId),
    (∀ (e : Bool) (d : BitVec 3) (a : BitVec 4), ∃ (b : Byte) (t : State),
      b.toNat = e.toNat * 128 + d.toNat * 16 + a.toNat ∧ exec (.adsr1Fields v e d a) s = .next t ∧
      t = { s with dsp := ({ s.dsp with tAdsr0 := b } : Dsp).setVoice v (t.dsp.voice v) } ∧
      EnvelopeRan s.params s.dsp.counter b (s.dsp.reg (vreg v 6)) (s.dsp.reg (vreg v 7)) (s.dsp.voice v) (t.dsp.voice v)) ∧
    (∀ (l : BitVec 3) (r : BitVec 5), ∃ (b : Byte) (t : State),
      b.toNat = l.toNat * 32 + r.toNat ∧ exec (.adsr2Fields v l r) s = .next t ∧
      t = { s with dsp := (s.dsp.setReg (vreg v 6) b).setVoice v (t.dsp.voice v) } ∧
      EnvelopeRan s.params s.dsp.counter s.dsp.tAdsr0 b (s.dsp.reg (vreg v 7)) (s.dsp.voice v) (t.dsp.voice v))

/-- R115, R266 to R270: a GAIN byte of each of the five patterns as an instruction: the byte in GAIN, and one envelope run with it; nothing
but the voice changes besides (entry 14). -/
def Obligations.GainWordsRunTheEnvelope : Prop :=
  ∀ (s : State) (v : VoiceId) (level : BitVec 7) (r : BitVec 5) (i : Instr) (b : Byte),
    (i, b.toNat) ∈ [(Instr.gainDirect v level, level.toNat), (.gainLinearDecrease v r, 0b10000000 + r.toNat),
      (.gainExponentialDecrease v r, 0b10100000 + r.toNat), (.gainLinearIncrease v r, 0b11000000 + r.toNat),
      (.gainTwoSlopeIncrease v r, 0b11100000 + r.toNat)] →
    ∃ t, exec i s = .next t ∧
      t = { s with dsp := (s.dsp.setReg (vreg v 7) b).setVoice v (t.dsp.voice v) } ∧
      EnvelopeRan s.params s.dsp.counter s.dsp.tAdsr0 (s.dsp.reg (vreg v 6)) b (s.dsp.voice v) (t.dsp.voice v)

/-- R121, R122, R240 to R249: a BRR header, read by its filter or by its shift, and a data byte, as instructions: one group of four samples
decoded with it, the ring position moved by 4 modulo 12, and nothing else changed (entry 14). -/
def Obligations.BrrWordsDecodeAGroup : Prop :=
  ∀ (s : State) (v : VoiceId) (sh : BitVec 4) (f bad : BitVec 2) (l e : Bool) (i : Instr) (header first : Byte),
    (i, header.toNat, first) ∈ [
      (Instr.brrFilter0 v sh l e, sh.toNat * 16 + 0 + l.toNat * 2 + e.toNat, s.dsp.tBrrByte),
      (.brrFilter1 v sh l e, sh.toNat * 16 + 4 + l.toNat * 2 + e.toNat, s.dsp.tBrrByte),
      (.brrFilter2 v sh l e, sh.toNat * 16 + 8 + l.toNat * 2 + e.toNat, s.dsp.tBrrByte),
      (.brrFilter3 v sh l e, sh.toNat * 16 + 12 + l.toNat * 2 + e.toNat, s.dsp.tBrrByte),
      (.brrShiftValid v sh f l e, sh.toNat * 16 + f.toNat * 4 + l.toNat * 2 + e.toNat, s.dsp.tBrrByte),
      (.brrShiftInvalid v bad f l e, (12 + bad.toNat) * 16 + f.toNat * 4 + l.toNat * 2 + e.toNat, s.dsp.tBrrByte),
      (.brrData v sh (f ++ bad), s.dsp.tBrrHeader.toNat, BitVec.ofNat 8 (sh.toNat * 16 + f.toNat * 4 + bad.toNat))] →
    ∃ t y, exec i s = .next t ∧ y = t.dsp.voice v ∧
      t = { s with
        dsp := Dsp.setVoice { s.dsp with tBrrHeader := header, tBrrByte := first } v
          { s.dsp.voice v with buf := y.buf, bufPos := ((s.dsp.voice v).bufPos + 4) % 12 } } ∧
      DecodedGroup header first
        (memRead s.aram ((s.dsp.voice v).brrAddr + BitVec.ofNat 16 ((s.dsp.voice v).brrOffset + 1)))
        (s.dsp.voice v).bufPos (s.dsp.voice v).buf y.buf

/-- R209, R213: a BRR header by its end and loop flags, as an instruction: end without loop releases and silences the voice; end with loop
takes the jump at the end of the block and marks it; a header that is no end goes on to the next block (entry 14). -/
def Obligations.BrrFlagsActOnTheBlock : Prop :=
  ∀ (s : State) (v : VoiceId) (sh : BitVec 4) (f : BitVec 2) (l : Bool) (x : Voice), x = s.dsp.voice v →
    (∃ b : Byte, b.toNat = sh.toNat * 16 + f.toNat * 4 + 1 ∧
      exec (.brrTerminator v sh f) s = .next { s with
        dsp := Dsp.setVoice { s.dsp with tBrrHeader := b } v { x with envMode := .release, env := 0 } }) ∧
    (∃ b : Byte, b.toNat = sh.toNat * 16 + f.toNat * 4 + 3 ∧
      exec (.brrEndLoop v sh f) s = .next { s with
        dsp :=
          if 9 ≤ x.brrOffset + 2 then
            Dsp.setVoice { s.dsp with tBrrHeader := b, tLooped := BitVec.ofNat 8 (2 ^ v.val) } v
              { x with brrAddr := s.dsp.tBrrNextAddr, brrOffset := 1 }
          else Dsp.setVoice { s.dsp with tBrrHeader := b } v { x with brrOffset := x.brrOffset + 2 } }) ∧
    (∃ b : Byte, b.toNat = sh.toNat * 16 + f.toNat * 4 + l.toNat * 2 ∧
      exec (.brrNotEnd v sh f l) s = .next { s with
        dsp := Dsp.setVoice { s.dsp with tBrrHeader := b } v
          (if 9 ≤ x.brrOffset + 2 then { x with brrAddr := x.brrAddr + 9, brrOffset := 1 }
          else { x with brrOffset := x.brrOffset + 2 }) })

/-! ### The whole machine -/

/-- R68: no instruction changes a parameter of the configuration. -/
def Obligations.NoInstructionChangesTheParameters : Prop :=
  ∀ (i : Instr) (s t : State), exec i s = .next t → t.params = s.params

/-- R58, R369: no instruction but `Reset`, `INIT` and `Construct` removes or changes a pair already emitted. -/
def Obligations.OutputIsNeverDropped : Prop :=
  ∀ (i : Instr) (s t : State), exec i s = .next t → i ≠ .reset → i ≠ .init → (∀ a, i ≠ .construct a) → s.out <+: t.out

/-- R409, R426, R309, R312: while FLG has its mute and echo-disable bits set and the Host is quiet, every emitted pair is (0, 0) and ARAM is
not written, from a sample boundary on. -/
def Obligations.SilentWhileFlgMutes : Prop :=
  ∀ (n : Nat) (s : State), s.dsp.phase = 0 → s.dsp.reg 0x6C &&& 0x60 = 0x60 → ∃ t k,
    exec (.run n) s = .next t ∧ t.out = s.out ++ List.replicate k ⟨0, 0⟩ ∧ t.aram = s.aram ∧ t.dsp.reg 0x6C = s.dsp.reg 0x6C

/-- R69, which spec/ marks as derived, and the ranges of 10_state.md hold after reset. -/
def Obligations.ResetMeetsTheInvariant : Prop := State.reset.Inv

/-- R69, which spec/ marks as derived: every step keeps the invariant, from every state that meets it. -/
def Obligations.StepKeepsTheInvariant : Prop :=
  ∀ s t : State, s.Inv → step s = .next t → t.Inv

/-- R69, which spec/ marks as derived: every state that a run reaches from reset, with any Host and any parameters, meets the invariant. -/
def Obligations.ReachableStatesMeetTheInvariant : Prop :=
  ∀ s : State, Reachable s → s.Inv
end

