-- ==== Sys2Proof/Laws/Arith.lean ====
section
/-! SUPPORT. The ranges of the casts, clamps and shifts of 00_scope.md R8 to R10, and of the quantities computed with them. -/

namespace Sys2Proof.Machine

theorem clamp16_range (x : Int) : -32768 ≤ clamp16 x ∧ clamp16 x ≤ 32767 := by
  unfold clamp16
  split_ifs <;> omega

theorem sext16_range (x : Int) : -32768 ≤ sext16 x ∧ sext16 x ≤ 32767 := by
  unfold sext16
  omega

/-- `sext_16` is congruent to its argument modulo 65536 (R8). -/
theorem sext16_emod (x : Int) : sext16 x % 65536 = x % 65536 := by
  unfold sext16
  omega

theorem clearLow_even (x : Int) : clearLow x % 2 = 0 := by
  unfold clearLow
  omega

theorem clearLow_clamp16 (x : Int) :
    clearLow (clamp16 x) % 2 = 0 ∧ -32768 ≤ clearLow (clamp16 x) ∧ clearLow (clamp16 x) ≤ 32766 := by
  have h := clamp16_range x
  unfold clearLow
  omega

theorem sext16_double (x : Int) : sext16 (x * 2) % 2 = 0 ∧ -32768 ≤ sext16 (x * 2) ∧ sext16 (x * 2) ≤ 32766 := by
  unfold sext16
  omega

/-- The arithmetic shift is a floor: it keeps bounds that are multiples of the divisor (R10). -/
theorem asr_range {x lo hi : Int} {n : Nat} (h : lo * 2 ^ n ≤ x) (h' : x < (hi + 1) * 2 ^ n) : lo ≤ asr x n ∧ asr x n ≤ hi := by
  have hp : (0 : Int) < 2 ^ n := by positivity
  unfold asr
  exact ⟨(Int.le_ediv_iff_mul_le hp).mpr h, Int.lt_add_one_iff.mp ((Int.ediv_lt_iff_lt_mul hp).mpr h')⟩

theorem sext8_range (b : Byte) : -128 ≤ sext8 b ∧ sext8 b ≤ 127 := by
  have h := BitVec.le_toInt b
  have h' := BitVec.toInt_lt (x := b)
  unfold sext8
  omega

theorem halved_range (w : BitVec 16) : -16384 ≤ halved w ∧ halved w ≤ 16383 := by
  have h := BitVec.le_toInt w
  have h' := BitVec.toInt_lt (x := w)
  exact asr_range (by omega) (by omega)

theorem pitchHigh_range (b : Byte) : 0 ≤ pitchHigh b ∧ pitchHigh b ≤ 0x3F00 := by
  unfold pitchHigh
  omega

theorem directLevel_range (b : Byte) : 0 ≤ directLevel b ∧ directLevel b ≤ 0x7F0 := by
  unfold directLevel
  omega

theorem clampLevel_range (x : Int) : 0 ≤ clampLevel x ∧ clampLevel x ≤ 0x7FF := by
  unfold clampLevel
  split_ifs <;> omega

/-- A sample times a level, shifted by 11, with the low bit cleared (R208): even, and within the range of the sample. -/
theorem enveloped_range {output env : Int} (ho : -32768 ≤ output ∧ output ≤ 32767) (he : 0 ≤ env ∧ env ≤ 0x7FF) :
    enveloped output env % 2 = 0 ∧ -32752 ≤ enveloped output env ∧ enveloped output env ≤ 32750 := by
  have h1 : -32768 * 0x7FF ≤ output * env := by nlinarith
  have h2 : output * env ≤ 32767 * 0x7FF := by nlinarith
  have h := asr_range (x := output * env) (lo := -32752) (hi := 32751) (n := 11) (by omega) (by omega)
  unfold enveloped clearLow
  omega

end Sys2Proof.Machine
end

