-- ==== Sys2Proof/Laws/Resampler.lean ====
section
/-! SUPPORT. The resampler's operations keep its invariants, and what each does in one lemma (46_output_resampler.md). -/

namespace Sys2Proof.Machine

theorem History.wf_zero : History.zero.Wf := by decide

theorem Resampler.clear_wf {r : Resampler} (h : 0 < r.step) : r.clear.Wf := by
  refine ⟨Nat.zero_le _, Or.inr rfl, h, ⟨by simp [Resampler.clear], ?_⟩, History.wf_zero, History.wf_zero⟩
  simp only [Resampler.clear]
  linarith

theorem Resampler.fresh_wf (n : Nat) : (Resampler.fresh n).Wf := by
  refine ⟨Nat.zero_le _, Or.inr rfl, ?_, ⟨?_, ?_⟩, History.wf_zero, History.wf_zero⟩ <;> simp [Resampler.fresh]

theorem Resampler.resize_wf {r : Resampler} (h : 0 < r.step) (n : Nat) : (r.resize n).Wf := Resampler.clear_wf h

theorem Resampler.setRatio_wf (r : Resampler) {q : Rat} (h : 0 < q) : (r.setRatio q).Wf := Resampler.clear_wf h

theorem Resampler.cacheSilence_wf {r : Resampler} (h : 0 < r.step) : r.cacheSilence.Wf := by
  have hc := Resampler.clear_wf h
  refine ⟨?_, Or.inr rfl, h, hc.2.2.2⟩
  simp [Resampler.cacheSilence, Resampler.clear]

@[simp] theorem storeBytes_length (buffer : List Byte) (pos : Nat) (bytes : List Byte) :
    (storeBytes buffer pos bytes).length = buffer.length := by
  induction bytes generalizing buffer pos with
  | nil => rfl
  | cons b bytes ih => simp [storeBytes, ih]

theorem Resampler.push_wf {r : Resampler} (h : r.Wf) (bytes : List Byte) : (r.push bytes).Wf := by
  unfold Resampler.push
  split
  · next hf =>
    obtain ⟨h1, h2, h3⟩ := h
    have hf' : bytes.length + r.size ≤ r.buffer.length := of_decide_eq_true hf
    refine ⟨?_, ?_, h3⟩
    · simp only [storeBytes_length]
      omega
    · simpa using h2
  · exact h

theorem Resampler.oldestFrame_signed16 (r : Resampler) : signed16 r.oldestFrame.l ∧ signed16 r.oldestFrame.r := by
  have h : ∀ w : BitVec 16, signed16 w.toInt := fun w => by
    have h1 := BitVec.le_toInt w
    have h2 := BitVec.toInt_lt (x := w)
    exact ⟨by omega, by omega⟩
  exact ⟨h _, h _⟩

theorem History.shift_wf {h : History} (hw : h.Wf) {x : Int} (hx : signed16 x) : (h.shift x).Wf :=
  ⟨hw.2.1, hw.2.2.1, hw.2.2.2, hx⟩

/-- The invariants inside `Read`, between an output frame and the pull that follows it: the position may be `1 + r_step`. -/
def Resampler.Mid (r : Resampler) : Prop :=
  r.size ≤ r.buffer.length ∧ (r.start < r.buffer.length ∨ r.start = 0) ∧ 0 < r.step ∧ (0 ≤ r.frac ∧ r.frac ≤ 1 + r.step) ∧
  r.left.Wf ∧ r.right.Wf

theorem Resampler.Wf.mid {r : Resampler} (h : r.Wf) : r.Mid := by
  obtain ⟨h1, h2, h3, h4, h5⟩ := h
  exact ⟨h1, h2, h3, ⟨h4.1, le_of_lt h4.2⟩, h5⟩

theorem Resampler.Mid.wf {r : Resampler} (h : r.Mid) (hf : r.frac ≤ 1) : r.Wf := by
  obtain ⟨h1, h2, h3, h4, h5⟩ := h
  exact ⟨h1, h2, h3, ⟨h4.1, by linarith⟩, h5⟩

/-- A pull happens when a whole frame is stored and the position is above 1; after it the invariants hold (R333, R342). -/
theorem Resampler.pull_wf {r : Resampler} (h : r.Mid) (hs : 4 ≤ r.size) (hf : 1 < r.frac) : r.pull.Wf := by
  obtain ⟨h1, h2, h3, h4, h5, h6⟩ := h
  have ho := r.oldestFrame_signed16
  refine ⟨?_, Or.inl (Nat.mod_lt _ (by omega)), h3, ⟨?_, ?_⟩, History.shift_wf h5 ho.1, History.shift_wf h6 ho.2⟩
  · simp only [Resampler.pull]
    omega
  · simp only [Resampler.pull]
    linarith
  · simp only [Resampler.pull]
    linarith [h4.2]

/-- What the inner loop of `Read` does: only the position moves; it ends above 1 unless the wanted frames are all out; two samples
for each frame (R333). -/
theorem Resampler.emit_spec {r : Resampler} (h : r.Mid) (want : Nat) :
    (Resampler.emit want r).2.1.Mid ∧ (Resampler.emit want r).2.1.size = r.size ∧
    ((Resampler.emit want r).2.1.frac ≤ 1 → (Resampler.emit want r).2.2 = 0) ∧
    (Resampler.emit want r).1.length = 2 * (want - (Resampler.emit want r).2.2) ∧
    (Resampler.emit want r).2.2 ≤ want := by
  induction want generalizing r with
  | zero => exact ⟨h, rfl, fun _ => rfl, rfl, le_refl 0⟩
  | succ want ih =>
    unfold Resampler.emit
    split
    · next hf =>
      obtain ⟨h1, h2, h3, h4, h5⟩ := h
      have hr : ({ r with frac := r.frac + r.step } : Resampler).Mid := by
        refine ⟨h1, h2, h3, ⟨?_, ?_⟩, h5⟩
        · show (0 : Rat) ≤ r.frac + r.step
          linarith [h4.1]
        · show r.frac + r.step ≤ 1 + r.step
          linarith
      obtain ⟨i1, i2, i3, i4, i5⟩ := ih hr
      refine ⟨i1, i2, i3, ?_, Nat.le_succ_of_le i5⟩
      simp only [Resampler.outputFrame, List.cons_append, List.nil_append, List.length_cons, i4]
      rw [Nat.sub_add_comm i5]
      omega
    · next hf =>
      exact ⟨h, rfl, fun hle => absurd hle hf, by simp, le_refl _⟩

/-- `Read` keeps the invariants (R333). -/
theorem Resampler.readLoop_wf (stored want : Nat) {r : Resampler} (h : r.Wf) (hs : stored * 4 ≤ r.size) :
    (Resampler.readLoop stored want r).2.Wf := by
  induction stored generalizing want r with
  | zero =>
    cases want <;> exact h
  | succ stored ih =>
    cases want with
    | zero => exact h
    | succ want =>
      obtain ⟨i1, i2, -, -, -⟩ := Resampler.emit_spec h.mid (want + 1)
      have hsize : 4 ≤ r.size := Nat.le_trans (by omega) hs
      unfold Resampler.readLoop
      simp only
      split
      · next hf => exact i1.wf hf
      · next hf =>
        refine ih _ (Resampler.pull_wf i1 (i2 ▸ hsize) (lt_of_not_ge hf)) ?_
        show stored * 4 ≤ (Resampler.emit (want + 1) r).2.1.size - 4
        rw [i2]
        clear i1
        omega

theorem Resampler.read_wf {r : Resampler} (h : r.Wf) (n : Int) : (r.read n).2.Wf :=
  Resampler.readLoop_wf _ _ h (Nat.div_mul_le_self ..)

end Sys2Proof.Machine
end

