-- ==== Sys2Proof/Laws/State.lean ====
section
/-! SUPPORT. One lemma per field per update of the state, so that no proof unfolds a record update. -/

namespace Sys2Proof.Machine

/-! ### `Dsp.setReg` -/

@[simp] theorem Dsp.setReg_phase (d : Dsp) (a : RegAddr) (b : Byte) :
    (d.setReg a b).phase = d.phase := rfl

@[simp] theorem Dsp.setReg_counter (d : Dsp) (a : RegAddr) (b : Byte) :
    (d.setReg a b).counter = d.counter := rfl

@[simp] theorem Dsp.setReg_everyOtherSample (d : Dsp) (a : RegAddr) (b : Byte) :
    (d.setReg a b).everyOtherSample = d.everyOtherSample := rfl

@[simp] theorem Dsp.setReg_newKon (d : Dsp) (a : RegAddr) (b : Byte) :
    (d.setReg a b).newKon = d.newKon := rfl

@[simp] theorem Dsp.setReg_kon (d : Dsp) (a : RegAddr) (b : Byte) :
    (d.setReg a b).kon = d.kon := rfl

@[simp] theorem Dsp.setReg_tKoff (d : Dsp) (a : RegAddr) (b : Byte) :
    (d.setReg a b).tKoff = d.tKoff := rfl

@[simp] theorem Dsp.setReg_noise (d : Dsp) (a : RegAddr) (b : Byte) :
    (d.setReg a b).noise = d.noise := rfl

@[simp] theorem Dsp.setReg_echoHist (d : Dsp) (a : RegAddr) (b : Byte) :
    (d.setReg a b).echoHist = d.echoHist := rfl

@[simp] theorem Dsp.setReg_echoHistPos (d : Dsp) (a : RegAddr) (b : Byte) :
    (d.setReg a b).echoHistPos = d.echoHistPos := rfl

@[simp] theorem Dsp.setReg_echoOffset (d : Dsp) (a : RegAddr) (b : Byte) :
    (d.setReg a b).echoOffset = d.echoOffset := rfl

@[simp] theorem Dsp.setReg_echoLength (d : Dsp) (a : RegAddr) (b : Byte) :
    (d.setReg a b).echoLength = d.echoLength := rfl

@[simp] theorem Dsp.setReg_tPmon (d : Dsp) (a : RegAddr) (b : Byte) :
    (d.setReg a b).tPmon = d.tPmon := rfl

@[simp] theorem Dsp.setReg_tNon (d : Dsp) (a : RegAddr) (b : Byte) :
    (d.setReg a b).tNon = d.tNon := rfl

@[simp] theorem Dsp.setReg_tEon (d : Dsp) (a : RegAddr) (b : Byte) :
    (d.setReg a b).tEon = d.tEon := rfl

@[simp] theorem Dsp.setReg_tDir (d : Dsp) (a : RegAddr) (b : Byte) :
    (d.setReg a b).tDir = d.tDir := rfl

@[simp] theorem Dsp.setReg_tEsa (d : Dsp) (a : RegAddr) (b : Byte) :
    (d.setReg a b).tEsa = d.tEsa := rfl

@[simp] theorem Dsp.setReg_tEchoEnabled (d : Dsp) (a : RegAddr) (b : Byte) :
    (d.setReg a b).tEchoEnabled = d.tEchoEnabled := rfl

@[simp] theorem Dsp.setReg_tSrcn (d : Dsp) (a : RegAddr) (b : Byte) :
    (d.setReg a b).tSrcn = d.tSrcn := rfl

@[simp] theorem Dsp.setReg_tDirAddr (d : Dsp) (a : RegAddr) (b : Byte) :
    (d.setReg a b).tDirAddr = d.tDirAddr := rfl

@[simp] theorem Dsp.setReg_tBrrNextAddr (d : Dsp) (a : RegAddr) (b : Byte) :
    (d.setReg a b).tBrrNextAddr = d.tBrrNextAddr := rfl

@[simp] theorem Dsp.setReg_tAdsr0 (d : Dsp) (a : RegAddr) (b : Byte) :
    (d.setReg a b).tAdsr0 = d.tAdsr0 := rfl

@[simp] theorem Dsp.setReg_tPitch (d : Dsp) (a : RegAddr) (b : Byte) :
    (d.setReg a b).tPitch = d.tPitch := rfl

@[simp] theorem Dsp.setReg_tBrrHeader (d : Dsp) (a : RegAddr) (b : Byte) :
    (d.setReg a b).tBrrHeader = d.tBrrHeader := rfl

@[simp] theorem Dsp.setReg_tBrrByte (d : Dsp) (a : RegAddr) (b : Byte) :
    (d.setReg a b).tBrrByte = d.tBrrByte := rfl

@[simp] theorem Dsp.setReg_tOutput (d : Dsp) (a : RegAddr) (b : Byte) :
    (d.setReg a b).tOutput = d.tOutput := rfl

@[simp] theorem Dsp.setReg_tLooped (d : Dsp) (a : RegAddr) (b : Byte) :
    (d.setReg a b).tLooped = d.tLooped := rfl

@[simp] theorem Dsp.setReg_tMainOut (d : Dsp) (a : RegAddr) (b : Byte) :
    (d.setReg a b).tMainOut = d.tMainOut := rfl

@[simp] theorem Dsp.setReg_tEchoOut (d : Dsp) (a : RegAddr) (b : Byte) :
    (d.setReg a b).tEchoOut = d.tEchoOut := rfl

@[simp] theorem Dsp.setReg_tEchoIn (d : Dsp) (a : RegAddr) (b : Byte) :
    (d.setReg a b).tEchoIn = d.tEchoIn := rfl

@[simp] theorem Dsp.setReg_tEchoPtr (d : Dsp) (a : RegAddr) (b : Byte) :
    (d.setReg a b).tEchoPtr = d.tEchoPtr := rfl

@[simp] theorem Dsp.setReg_endxBuf (d : Dsp) (a : RegAddr) (b : Byte) :
    (d.setReg a b).endxBuf = d.endxBuf := rfl

@[simp] theorem Dsp.setReg_outxBuf (d : Dsp) (a : RegAddr) (b : Byte) :
    (d.setReg a b).outxBuf = d.outxBuf := rfl

@[simp] theorem Dsp.setReg_envxBuf (d : Dsp) (a : RegAddr) (b : Byte) :
    (d.setReg a b).envxBuf = d.envxBuf := rfl

@[simp] theorem Dsp.setReg_muteMask (d : Dsp) (a : RegAddr) (b : Byte) :
    (d.setReg a b).muteMask = d.muteMask := rfl

@[simp] theorem Dsp.setReg_sampleCount (d : Dsp) (a : RegAddr) (b : Byte) :
    (d.setReg a b).sampleCount = d.sampleCount := rfl

@[simp] theorem Dsp.setReg_voices (d : Dsp) (a : RegAddr) (b : Byte) :
    (d.setReg a b).voices = d.voices := rfl

@[simp] theorem Dsp.setReg_regs (d : Dsp) (a : RegAddr) (b : Byte) :
    (d.setReg a b).regs = d.regs.set a b := rfl

theorem Dsp.reg_setReg (d : Dsp) (a c : RegAddr) (b : Byte) :
    (d.setReg a b).reg c = if a = c then b else d.reg c := by
  simp [Dsp.reg, Vector.getElem_set, Fin.ext_iff]

@[simp] theorem Dsp.reg_setReg_self (d : Dsp) (a : RegAddr) (b : Byte) : (d.setReg a b).reg a = b := by
  simp [Dsp.reg_setReg]

@[simp] theorem Dsp.voice_setReg (d : Dsp) (a : RegAddr) (b : Byte) (v : VoiceId) : (d.setReg a b).voice v = d.voice v := rfl

/-! ### `Dsp.setVoice` -/

@[simp] theorem Dsp.setVoice_regs (d : Dsp) (v : VoiceId) (x : Voice) :
    (d.setVoice v x).regs = d.regs := rfl

@[simp] theorem Dsp.setVoice_phase (d : Dsp) (v : VoiceId) (x : Voice) :
    (d.setVoice v x).phase = d.phase := rfl

@[simp] theorem Dsp.setVoice_counter (d : Dsp) (v : VoiceId) (x : Voice) :
    (d.setVoice v x).counter = d.counter := rfl

@[simp] theorem Dsp.setVoice_everyOtherSample (d : Dsp) (v : VoiceId) (x : Voice) :
    (d.setVoice v x).everyOtherSample = d.everyOtherSample := rfl

@[simp] theorem Dsp.setVoice_newKon (d : Dsp) (v : VoiceId) (x : Voice) :
    (d.setVoice v x).newKon = d.newKon := rfl

@[simp] theorem Dsp.setVoice_kon (d : Dsp) (v : VoiceId) (x : Voice) :
    (d.setVoice v x).kon = d.kon := rfl

@[simp] theorem Dsp.setVoice_tKoff (d : Dsp) (v : VoiceId) (x : Voice) :
    (d.setVoice v x).tKoff = d.tKoff := rfl

@[simp] theorem Dsp.setVoice_noise (d : Dsp) (v : VoiceId) (x : Voice) :
    (d.setVoice v x).noise = d.noise := rfl

@[simp] theorem Dsp.setVoice_echoHist (d : Dsp) (v : VoiceId) (x : Voice) :
    (d.setVoice v x).echoHist = d.echoHist := rfl

@[simp] theorem Dsp.setVoice_echoHistPos (d : Dsp) (v : VoiceId) (x : Voice) :
    (d.setVoice v x).echoHistPos = d.echoHistPos := rfl

@[simp] theorem Dsp.setVoice_echoOffset (d : Dsp) (v : VoiceId) (x : Voice) :
    (d.setVoice v x).echoOffset = d.echoOffset := rfl

@[simp] theorem Dsp.setVoice_echoLength (d : Dsp) (v : VoiceId) (x : Voice) :
    (d.setVoice v x).echoLength = d.echoLength := rfl

@[simp] theorem Dsp.setVoice_tPmon (d : Dsp) (v : VoiceId) (x : Voice) :
    (d.setVoice v x).tPmon = d.tPmon := rfl

@[simp] theorem Dsp.setVoice_tNon (d : Dsp) (v : VoiceId) (x : Voice) :
    (d.setVoice v x).tNon = d.tNon := rfl

@[simp] theorem Dsp.setVoice_tEon (d : Dsp) (v : VoiceId) (x : Voice) :
    (d.setVoice v x).tEon = d.tEon := rfl

@[simp] theorem Dsp.setVoice_tDir (d : Dsp) (v : VoiceId) (x : Voice) :
    (d.setVoice v x).tDir = d.tDir := rfl

@[simp] theorem Dsp.setVoice_tEsa (d : Dsp) (v : VoiceId) (x : Voice) :
    (d.setVoice v x).tEsa = d.tEsa := rfl

@[simp] theorem Dsp.setVoice_tEchoEnabled (d : Dsp) (v : VoiceId) (x : Voice) :
    (d.setVoice v x).tEchoEnabled = d.tEchoEnabled := rfl

@[simp] theorem Dsp.setVoice_tSrcn (d : Dsp) (v : VoiceId) (x : Voice) :
    (d.setVoice v x).tSrcn = d.tSrcn := rfl

@[simp] theorem Dsp.setVoice_tDirAddr (d : Dsp) (v : VoiceId) (x : Voice) :
    (d.setVoice v x).tDirAddr = d.tDirAddr := rfl

@[simp] theorem Dsp.setVoice_tBrrNextAddr (d : Dsp) (v : VoiceId) (x : Voice) :
    (d.setVoice v x).tBrrNextAddr = d.tBrrNextAddr := rfl

@[simp] theorem Dsp.setVoice_tAdsr0 (d : Dsp) (v : VoiceId) (x : Voice) :
    (d.setVoice v x).tAdsr0 = d.tAdsr0 := rfl

@[simp] theorem Dsp.setVoice_tPitch (d : Dsp) (v : VoiceId) (x : Voice) :
    (d.setVoice v x).tPitch = d.tPitch := rfl

@[simp] theorem Dsp.setVoice_tBrrHeader (d : Dsp) (v : VoiceId) (x : Voice) :
    (d.setVoice v x).tBrrHeader = d.tBrrHeader := rfl

@[simp] theorem Dsp.setVoice_tBrrByte (d : Dsp) (v : VoiceId) (x : Voice) :
    (d.setVoice v x).tBrrByte = d.tBrrByte := rfl

@[simp] theorem Dsp.setVoice_tOutput (d : Dsp) (v : VoiceId) (x : Voice) :
    (d.setVoice v x).tOutput = d.tOutput := rfl

@[simp] theorem Dsp.setVoice_tLooped (d : Dsp) (v : VoiceId) (x : Voice) :
    (d.setVoice v x).tLooped = d.tLooped := rfl

@[simp] theorem Dsp.setVoice_tMainOut (d : Dsp) (v : VoiceId) (x : Voice) :
    (d.setVoice v x).tMainOut = d.tMainOut := rfl

@[simp] theorem Dsp.setVoice_tEchoOut (d : Dsp) (v : VoiceId) (x : Voice) :
    (d.setVoice v x).tEchoOut = d.tEchoOut := rfl

@[simp] theorem Dsp.setVoice_tEchoIn (d : Dsp) (v : VoiceId) (x : Voice) :
    (d.setVoice v x).tEchoIn = d.tEchoIn := rfl

@[simp] theorem Dsp.setVoice_tEchoPtr (d : Dsp) (v : VoiceId) (x : Voice) :
    (d.setVoice v x).tEchoPtr = d.tEchoPtr := rfl

@[simp] theorem Dsp.setVoice_endxBuf (d : Dsp) (v : VoiceId) (x : Voice) :
    (d.setVoice v x).endxBuf = d.endxBuf := rfl

@[simp] theorem Dsp.setVoice_outxBuf (d : Dsp) (v : VoiceId) (x : Voice) :
    (d.setVoice v x).outxBuf = d.outxBuf := rfl

@[simp] theorem Dsp.setVoice_envxBuf (d : Dsp) (v : VoiceId) (x : Voice) :
    (d.setVoice v x).envxBuf = d.envxBuf := rfl

@[simp] theorem Dsp.setVoice_muteMask (d : Dsp) (v : VoiceId) (x : Voice) :
    (d.setVoice v x).muteMask = d.muteMask := rfl

@[simp] theorem Dsp.setVoice_sampleCount (d : Dsp) (v : VoiceId) (x : Voice) :
    (d.setVoice v x).sampleCount = d.sampleCount := rfl

@[simp] theorem Dsp.setVoice_voices (d : Dsp) (v : VoiceId) (x : Voice) :
    (d.setVoice v x).voices = d.voices.set v x := rfl

theorem Dsp.voice_setVoice (d : Dsp) (v w : VoiceId) (x : Voice) :
    (d.setVoice v x).voice w = if v = w then x else d.voice w := by
  simp [Dsp.voice, Vector.getElem_set, Fin.ext_iff]

@[simp] theorem Dsp.voice_setVoice_self (d : Dsp) (v : VoiceId) (x : Voice) : (d.setVoice v x).voice v = x := by
  simp [Dsp.voice_setVoice]

@[simp] theorem Dsp.reg_setVoice (d : Dsp) (a : RegAddr) (v : VoiceId) (x : Voice) : (d.setVoice v x).reg a = d.reg a := rfl

@[simp] theorem Dsp.setVoice_setVoice (d : Dsp) (v : VoiceId) (x y : Voice) : (d.setVoice v x).setVoice v y = d.setVoice v y := by
  simp [Dsp.setVoice]

@[simp] theorem Dsp.setVoice_voice (d : Dsp) (v : VoiceId) : d.setVoice v (d.voice v) = d := by
  simp [Dsp.setVoice, Dsp.voice]

/-! ### `State.mapDsp`, `State.report`, `resetDsp` -/

@[simp] theorem State.mapDsp_params (s : State) (g : Dsp → Dsp) :
    (s.mapDsp g).params = s.params := rfl

@[simp] theorem State.mapDsp_dsp (s : State) (g : Dsp → Dsp) :
    (s.mapDsp g).dsp = g s.dsp := rfl

@[simp] theorem State.mapDsp_aram (s : State) (g : Dsp → Dsp) :
    (s.mapDsp g).aram = s.aram := rfl

@[simp] theorem State.mapDsp_out (s : State) (g : Dsp → Dsp) :
    (s.mapDsp g).out = s.out := rfl

@[simp] theorem State.mapDsp_resampler (s : State) (g : Dsp → Dsp) :
    (s.mapDsp g).resampler = s.resampler := rfl

@[simp] theorem State.mapDsp_issued (s : State) (g : Dsp → Dsp) :
    (s.mapDsp g).issued = s.issued := rfl

@[simp] theorem State.mapDsp_hostBytes (s : State) (g : Dsp → Dsp) :
    (s.mapDsp g).hostBytes = s.hostBytes := rfl

@[simp] theorem State.mapDsp_results (s : State) (g : Dsp → Dsp) :
    (s.mapDsp g).results = s.results := rfl

@[simp] theorem State.mapDsp_mapDsp (s : State) (g h : Dsp → Dsp) :
    (s.mapDsp g).mapDsp h = s.mapDsp (fun d => h (g d)) := rfl

@[simp] theorem State.mapDsp_self (s : State) : s.mapDsp (fun d => d) = s := rfl

@[simp] theorem State.report_params (s : State) (r : HostResult) :
    (s.report r).params = s.params := rfl

@[simp] theorem State.report_dsp (s : State) (r : HostResult) :
    (s.report r).dsp = s.dsp := rfl

@[simp] theorem State.report_aram (s : State) (r : HostResult) :
    (s.report r).aram = s.aram := rfl

@[simp] theorem State.report_out (s : State) (r : HostResult) :
    (s.report r).out = s.out := rfl

@[simp] theorem State.report_resampler (s : State) (r : HostResult) :
    (s.report r).resampler = s.resampler := rfl

@[simp] theorem State.report_issued (s : State) (r : HostResult) :
    (s.report r).issued = s.issued := rfl

@[simp] theorem State.report_hostBytes (s : State) (r : HostResult) :
    (s.report r).hostBytes = s.hostBytes := rfl

@[simp] theorem State.report_results (s : State) (r : HostResult) :
    (s.report r).results = s.results ++ [r] := rfl

@[simp] theorem resetDsp_params (s : State) :
    (resetDsp s).params = s.params := rfl

@[simp] theorem resetDsp_dsp (s : State) :
    (resetDsp s).dsp = Dsp.reset s.params.resetImage s.dsp.muteMask := rfl

@[simp] theorem resetDsp_aram (s : State) :
    (resetDsp s).aram = s.aram := rfl

@[simp] theorem resetDsp_out (s : State) :
    (resetDsp s).out = [] := rfl

@[simp] theorem resetDsp_resampler (s : State) :
    (resetDsp s).resampler = s.resampler := rfl

@[simp] theorem resetDsp_issued (s : State) :
    (resetDsp s).issued = s.issued := rfl

@[simp] theorem resetDsp_hostBytes (s : State) :
    (resetDsp s).hostBytes = s.hostBytes := rfl

@[simp] theorem resetDsp_results (s : State) :
    (resetDsp s).results = s.results := rfl

/-! ### `Dsp.writeRegister` -/

@[simp] theorem Dsp.writeRegister_phase (d : Dsp) (a : RegAddr) (b : Byte) : (d.writeRegister a b).phase = d.phase := by
  unfold Dsp.writeRegister
  split_ifs <;> rfl

@[simp] theorem Dsp.writeRegister_counter (d : Dsp) (a : RegAddr) (b : Byte) : (d.writeRegister a b).counter = d.counter := by
  unfold Dsp.writeRegister
  split_ifs <;> rfl

@[simp] theorem Dsp.writeRegister_everyOtherSample (d : Dsp) (a : RegAddr) (b : Byte) : (d.writeRegister a b).everyOtherSample = d.everyOtherSample := by
  unfold Dsp.writeRegister
  split_ifs <;> rfl

@[simp] theorem Dsp.writeRegister_kon (d : Dsp) (a : RegAddr) (b : Byte) : (d.writeRegister a b).kon = d.kon := by
  unfold Dsp.writeRegister
  split_ifs <;> rfl

@[simp] theorem Dsp.writeRegister_tKoff (d : Dsp) (a : RegAddr) (b : Byte) : (d.writeRegister a b).tKoff = d.tKoff := by
  unfold Dsp.writeRegister
  split_ifs <;> rfl

@[simp] theorem Dsp.writeRegister_noise (d : Dsp) (a : RegAddr) (b : Byte) : (d.writeRegister a b).noise = d.noise := by
  unfold Dsp.writeRegister
  split_ifs <;> rfl

@[simp] theorem Dsp.writeRegister_echoHist (d : Dsp) (a : RegAddr) (b : Byte) : (d.writeRegister a b).echoHist = d.echoHist := by
  unfold Dsp.writeRegister
  split_ifs <;> rfl

@[simp] theorem Dsp.writeRegister_echoHistPos (d : Dsp) (a : RegAddr) (b : Byte) : (d.writeRegister a b).echoHistPos = d.echoHistPos := by
  unfold Dsp.writeRegister
  split_ifs <;> rfl

@[simp] theorem Dsp.writeRegister_echoOffset (d : Dsp) (a : RegAddr) (b : Byte) : (d.writeRegister a b).echoOffset = d.echoOffset := by
  unfold Dsp.writeRegister
  split_ifs <;> rfl

@[simp] theorem Dsp.writeRegister_echoLength (d : Dsp) (a : RegAddr) (b : Byte) : (d.writeRegister a b).echoLength = d.echoLength := by
  unfold Dsp.writeRegister
  split_ifs <;> rfl

@[simp] theorem Dsp.writeRegister_tPmon (d : Dsp) (a : RegAddr) (b : Byte) : (d.writeRegister a b).tPmon = d.tPmon := by
  unfold Dsp.writeRegister
  split_ifs <;> rfl

@[simp] theorem Dsp.writeRegister_tNon (d : Dsp) (a : RegAddr) (b : Byte) : (d.writeRegister a b).tNon = d.tNon := by
  unfold Dsp.writeRegister
  split_ifs <;> rfl

@[simp] theorem Dsp.writeRegister_tEon (d : Dsp) (a : RegAddr) (b : Byte) : (d.writeRegister a b).tEon = d.tEon := by
  unfold Dsp.writeRegister
  split_ifs <;> rfl

@[simp] theorem Dsp.writeRegister_tDir (d : Dsp) (a : RegAddr) (b : Byte) : (d.writeRegister a b).tDir = d.tDir := by
  unfold Dsp.writeRegister
  split_ifs <;> rfl

@[simp] theorem Dsp.writeRegister_tEsa (d : Dsp) (a : RegAddr) (b : Byte) : (d.writeRegister a b).tEsa = d.tEsa := by
  unfold Dsp.writeRegister
  split_ifs <;> rfl

@[simp] theorem Dsp.writeRegister_tEchoEnabled (d : Dsp) (a : RegAddr) (b : Byte) : (d.writeRegister a b).tEchoEnabled = d.tEchoEnabled := by
  unfold Dsp.writeRegister
  split_ifs <;> rfl

@[simp] theorem Dsp.writeRegister_tSrcn (d : Dsp) (a : RegAddr) (b : Byte) : (d.writeRegister a b).tSrcn = d.tSrcn := by
  unfold Dsp.writeRegister
  split_ifs <;> rfl

@[simp] theorem Dsp.writeRegister_tDirAddr (d : Dsp) (a : RegAddr) (b : Byte) : (d.writeRegister a b).tDirAddr = d.tDirAddr := by
  unfold Dsp.writeRegister
  split_ifs <;> rfl

@[simp] theorem Dsp.writeRegister_tBrrNextAddr (d : Dsp) (a : RegAddr) (b : Byte) : (d.writeRegister a b).tBrrNextAddr = d.tBrrNextAddr := by
  unfold Dsp.writeRegister
  split_ifs <;> rfl

@[simp] theorem Dsp.writeRegister_tAdsr0 (d : Dsp) (a : RegAddr) (b : Byte) : (d.writeRegister a b).tAdsr0 = d.tAdsr0 := by
  unfold Dsp.writeRegister
  split_ifs <;> rfl

@[simp] theorem Dsp.writeRegister_tPitch (d : Dsp) (a : RegAddr) (b : Byte) : (d.writeRegister a b).tPitch = d.tPitch := by
  unfold Dsp.writeRegister
  split_ifs <;> rfl

@[simp] theorem Dsp.writeRegister_tBrrHeader (d : Dsp) (a : RegAddr) (b : Byte) : (d.writeRegister a b).tBrrHeader = d.tBrrHeader := by
  unfold Dsp.writeRegister
  split_ifs <;> rfl

@[simp] theorem Dsp.writeRegister_tBrrByte (d : Dsp) (a : RegAddr) (b : Byte) : (d.writeRegister a b).tBrrByte = d.tBrrByte := by
  unfold Dsp.writeRegister
  split_ifs <;> rfl

@[simp] theorem Dsp.writeRegister_tOutput (d : Dsp) (a : RegAddr) (b : Byte) : (d.writeRegister a b).tOutput = d.tOutput := by
  unfold Dsp.writeRegister
  split_ifs <;> rfl

@[simp] theorem Dsp.writeRegister_tLooped (d : Dsp) (a : RegAddr) (b : Byte) : (d.writeRegister a b).tLooped = d.tLooped := by
  unfold Dsp.writeRegister
  split_ifs <;> rfl

@[simp] theorem Dsp.writeRegister_tMainOut (d : Dsp) (a : RegAddr) (b : Byte) : (d.writeRegister a b).tMainOut = d.tMainOut := by
  unfold Dsp.writeRegister
  split_ifs <;> rfl

@[simp] theorem Dsp.writeRegister_tEchoOut (d : Dsp) (a : RegAddr) (b : Byte) : (d.writeRegister a b).tEchoOut = d.tEchoOut := by
  unfold Dsp.writeRegister
  split_ifs <;> rfl

@[simp] theorem Dsp.writeRegister_tEchoIn (d : Dsp) (a : RegAddr) (b : Byte) : (d.writeRegister a b).tEchoIn = d.tEchoIn := by
  unfold Dsp.writeRegister
  split_ifs <;> rfl

@[simp] theorem Dsp.writeRegister_tEchoPtr (d : Dsp) (a : RegAddr) (b : Byte) : (d.writeRegister a b).tEchoPtr = d.tEchoPtr := by
  unfold Dsp.writeRegister
  split_ifs <;> rfl

@[simp] theorem Dsp.writeRegister_muteMask (d : Dsp) (a : RegAddr) (b : Byte) : (d.writeRegister a b).muteMask = d.muteMask := by
  unfold Dsp.writeRegister
  split_ifs <;> rfl

@[simp] theorem Dsp.writeRegister_sampleCount (d : Dsp) (a : RegAddr) (b : Byte) : (d.writeRegister a b).sampleCount = d.sampleCount := by
  unfold Dsp.writeRegister
  split_ifs <;> rfl

@[simp] theorem Dsp.writeRegister_voices (d : Dsp) (a : RegAddr) (b : Byte) : (d.writeRegister a b).voices = d.voices := by
  unfold Dsp.writeRegister
  split_ifs <;> rfl

@[simp] theorem Dsp.voice_writeRegister (d : Dsp) (a : RegAddr) (b : Byte) (v : VoiceId) :
    (d.writeRegister a b).voice v = d.voice v := by
  simp [Dsp.voice]

/-- What a register write leaves in the bank: the byte at its address, but 0 at ENDX, and every other byte unchanged (R362). -/
theorem Dsp.reg_writeRegister (d : Dsp) (a c : RegAddr) (b : Byte) :
    (d.writeRegister a b).reg c = if a = c then (if a.val = 0x7C then 0 else b) else d.reg c := by
  unfold Dsp.writeRegister
  split_ifs <;> simp_all [Dsp.reg, Dsp.setReg, Fin.ext_iff]

/-! ### Pairs -/

@[simp] theorem Stereo.get_left (p : Stereo) :
    p.get .left = p.l := rfl

@[simp] theorem Stereo.set_left_l (p : Stereo) (x : Int) :
    (p.set .left x).l = x := rfl

@[simp] theorem Stereo.set_left_r (p : Stereo) (x : Int) :
    (p.set .left x).r = p.r := rfl

@[simp] theorem Stereo.get_right (p : Stereo) :
    p.get .right = p.r := rfl

@[simp] theorem Stereo.set_right_r (p : Stereo) (x : Int) :
    (p.set .right x).r = x := rfl

@[simp] theorem Stereo.set_right_l (p : Stereo) (x : Int) :
    (p.set .right x).l = p.l := rfl

end Sys2Proof.Machine
end

