-- ==== Sys2Proof/Laws/Frames.lean ====
section
/-! SUPPORT. What the composite voice micro-ops and M30 leave unchanged: one equation per operation, naming the fields it writes. -/

namespace Sys2Proof.Machine

/-- `e` differs from `d` at most in the fields V3c writes (R205). -/
def V3cFrame (d e : Dsp) : Prop :=
  e = { d with tPitch := e.tPitch, tBrrHeader := e.tBrrHeader, tOutput := e.tOutput, voices := e.voices }

theorem V3cFrame.trans {d e f : Dsp} (h : V3cFrame d e) (h' : V3cFrame e f) : V3cFrame d f := by
  unfold V3cFrame at *
  rw [h']
  simp only
  rw [h]

theorem pitchMod_frame (v : VoiceId) (d : Dsp) : V3cFrame d (pitchMod v d) := by
  unfold V3cFrame pitchMod
  split <;> rfl

theorem keyOnSeq_frame (v : VoiceId) (d : Dsp) : V3cFrame d (keyOnSeq v d) := by
  unfold V3cFrame keyOnSeq
  simp only
  split_ifs <;> rfl

theorem voiceSample_frame (p : Params) (v : VoiceId) (d : Dsp) : V3cFrame d (voiceSample p v d) := rfl

theorem forceRelease_frame (v : VoiceId) (d : Dsp) : V3cFrame d (forceRelease v d) := by
  unfold V3cFrame forceRelease
  split <;> rfl

theorem keyLatch_frame (v : VoiceId) (d : Dsp) : V3cFrame d (keyLatch v d) := by
  unfold V3cFrame keyLatch
  split <;> rfl

theorem envelopeGate_frame (p : Params) (v : VoiceId) (d : Dsp) : V3cFrame d (envelopeGate p v d) := by
  unfold V3cFrame envelopeGate
  split <;> rfl

theorem opV3c_frame (p : Params) (v : VoiceId) (d : Dsp) : V3cFrame d (opV3c p v d) :=
  ((((pitchMod_frame v d).trans (keyOnSeq_frame v _)).trans (voiceSample_frame p v _)).trans (forceRelease_frame v _)).trans
    ((keyLatch_frame v _).trans (envelopeGate_frame p v _))

/-- `e` differs from `d` at most in the fields V4 writes (R212). -/
def V4Frame (d e : Dsp) : Prop :=
  e = { d with tLooped := e.tLooped, tMainOut := e.tMainOut, tEchoOut := e.tEchoOut, voices := e.voices }

theorem V4Frame.trans {d e f : Dsp} (h : V4Frame d e) (h' : V4Frame e f) : V4Frame d f := by
  unfold V4Frame at *
  rw [h']
  simp only
  rw [h]

theorem blockAdvance_frame (v : VoiceId) (d : Dsp) : V4Frame d (blockAdvance v d) := by
  unfold V4Frame blockAdvance
  simp only
  split_ifs <;> rfl

theorem decodeGroup_frame (m : Memory) (v : VoiceId) (d : Dsp) : V4Frame d (decodeGroup m v d) := rfl

theorem decodeIfDue_frame (m : Memory) (v : VoiceId) (d : Dsp) : V4Frame d (decodeIfDue m v d) := by
  unfold decodeIfDue
  split
  · exact (decodeGroup_frame m v d).trans (blockAdvance_frame v _)
  · rfl

theorem pitchAdvance_frame (v : VoiceId) (d : Dsp) : V4Frame d (pitchAdvance v d) := rfl

theorem voiceOutput_frame (v : VoiceId) (ch : Chan) (d : Dsp) : V4Frame d (voiceOutput v ch d) := rfl

theorem opV4_frame (m : Memory) (v : VoiceId) (d : Dsp) : V4Frame d (opV4 m v d) :=
  ((show V4Frame d { d with tLooped := 0 } from rfl).trans (decodeIfDue_frame m v _)).trans
    ((pitchAdvance_frame v _).trans (voiceOutput_frame v .left _))

theorem opV5_frame (v : VoiceId) (d : Dsp) :
    opV5 v d = { d with tMainOut := (opV5 v d).tMainOut, tEchoOut := (opV5 v d).tEchoOut, endxBuf := (opV5 v d).endxBuf } := rfl

theorem opM30_frame (p : Params) (d : Dsp) :
    opM30 p d = { d with
      kon := (opM30 p d).kon, tKoff := (opM30 p d).tKoff, counter := (opM30 p d).counter, noise := (opM30 p d).noise } := by
  unfold opM30 noiseStep loadKeys
  simp only
  split_ifs <;> rfl

/-! ### The other voices -/

theorem Dsp.voice_setVoice_ne (d : Dsp) {v w : VoiceId} (h : w ≠ v) (x : Voice) : (d.setVoice v x).voice w = d.voice w := by
  simp [Dsp.voice_setVoice, Ne.symm h]

theorem keyOnSeq_voice_ne {v w : VoiceId} (h : w ≠ v) (d : Dsp) : (keyOnSeq v d).voice w = d.voice w := by
  unfold keyOnSeq
  simp only
  split_ifs
  · rfl
  · exact Dsp.voice_setVoice_ne _ h _
  · exact Dsp.voice_setVoice_ne _ h _

theorem pitchMod_voice (v w : VoiceId) (d : Dsp) : (pitchMod v d).voice w = d.voice w := by
  unfold pitchMod
  split <;> rfl

theorem forceRelease_voice_ne {v w : VoiceId} (h : w ≠ v) (d : Dsp) : (forceRelease v d).voice w = d.voice w := by
  unfold forceRelease
  split
  · exact Dsp.voice_setVoice_ne _ h _
  · rfl

theorem keyLatch_voice_ne {v w : VoiceId} (h : w ≠ v) (d : Dsp) : (keyLatch v d).voice w = d.voice w := by
  unfold keyLatch
  split
  · exact Dsp.voice_setVoice_ne _ h _
  · rfl

theorem envelopeGate_voice_ne {v w : VoiceId} (h : w ≠ v) (p : Params) (d : Dsp) : (envelopeGate p v d).voice w = d.voice w := by
  unfold envelopeGate
  split
  · exact Dsp.voice_setVoice_ne _ h _
  · rfl

/-- V3c of a voice leaves every other voice alone. -/
theorem opV3c_voice_ne {v w : VoiceId} (h : w ≠ v) (p : Params) (d : Dsp) : (opV3c p v d).voice w = d.voice w := by
  unfold opV3c
  rw [envelopeGate_voice_ne h, keyLatch_voice_ne h, forceRelease_voice_ne h]
  unfold voiceSample
  rw [Dsp.voice_setVoice_ne _ h]
  exact (keyOnSeq_voice_ne h _).trans (pitchMod_voice v w d)

theorem blockAdvance_voice_ne {v w : VoiceId} (h : w ≠ v) (d : Dsp) : (blockAdvance v d).voice w = d.voice w := by
  unfold blockAdvance
  simp only
  split_ifs <;> exact Dsp.voice_setVoice_ne _ h _

/-- V4 of a voice leaves every other voice alone. -/
theorem opV4_voice_ne {v w : VoiceId} (h : w ≠ v) (m : Memory) (d : Dsp) : (opV4 m v d).voice w = d.voice w := by
  have hd : (decodeIfDue m v { d with tLooped := 0 }).voice w = d.voice w := by
    unfold decodeIfDue
    split
    · exact (blockAdvance_voice_ne h _).trans (Dsp.voice_setVoice_ne _ h _)
    · rfl
  exact (Dsp.voice_setVoice_ne _ h _).trans hd

end Sys2Proof.Machine
end

