-- ==== Sys2Proof/Laws/Memory.lean ====
section
/-! SUPPORT. The laws of ARAM: every operation keeps the canonical form, a byte reads as what was last written there, and a write
leaves every other byte alone (20_memory.md R81, R94). -/

namespace Sys2Proof.Machine

theorem Memory.wf_nil : Memory.Wf [] := by simp [Memory.Wf]

theorem Memory.wf_tail {c : Host.Cell} {m : Memory} (h : Memory.Wf (c :: m)) : Memory.Wf m :=
  ⟨(List.pairwise_cons.mp h.1).2, fun x hx => h.2 x (List.mem_cons_of_mem c hx)⟩

theorem Memory.read_of_lt {m : Memory} {a : Nat} (h : ∀ c ∈ m, a < c.1) : m.read a = Config.unlistedByte := by
  induction m with
  | nil => rfl
  | cons c m ih =>
    have hc := h c (List.mem_cons_self ..)
    simp only [Memory.read, show c.1 ≠ a by omega, if_false]
    exact ih (fun x hx => h x (List.mem_cons_of_mem c hx))

theorem Memory.read_cons (a : Nat) (b : Byte) (m : Memory) (x : Nat) (h : ∀ c ∈ m, a < c.1) :
    (Memory.cons a b m).read x = if a = x then b else m.read x := by
  unfold Memory.cons
  split_ifs with hb hx hx
  · subst hx; rw [hb]; exact Memory.read_of_lt h
  · rfl
  · simp [Memory.read, hx]
  · simp [Memory.read, hx]

/-- A byte reads as what was written there, and every other byte as before (R81). -/
theorem Memory.read_write {m : Memory} (h : m.Wf) (a : Nat) (b : Byte) (x : Nat) :
    (m.write a b).read x = if a = x then b else m.read x := by
  induction m with
  | nil => exact Memory.read_cons a b [] x (by simp)
  | cons c m ih =>
    have hlt : ∀ d ∈ m, c.1 < d.1 := (List.pairwise_cons.mp h.1).1
    rcases Nat.lt_trichotomy a c.1 with h1 | h2 | h3
    · rw [Memory.write, if_pos h1, Memory.read_cons]
      intro d hd
      rcases List.mem_cons.mp hd with rfl | hd
      · exact h1
      · exact Nat.lt_trans h1 (hlt d hd)
    · rw [Memory.write, if_neg (by omega), if_pos h2, Memory.read_cons a b m x (fun d hd => h2 ▸ hlt d hd)]
      by_cases hx : a = x
      · simp [hx]
      · simp [Memory.read, hx, show c.1 ≠ x by omega]
    · rw [Memory.write, if_neg (by omega), if_neg (by omega)]
      simp only [Memory.read]
      rw [ih (Memory.wf_tail h)]
      by_cases hc : c.1 = x
      · simp [hc, show a ≠ x by omega]
      · simp [hc]

theorem Memory.mem_cons {a : Nat} {b : Byte} {m : Memory} {d : Host.Cell} (h : d ∈ Memory.cons a b m) :
    (d = (a, b) ∧ b ≠ Config.unlistedByte) ∨ d ∈ m := by
  unfold Memory.cons at h
  split_ifs at h with hb
  · exact Or.inr h
  · rcases List.mem_cons.mp h with rfl | h
    · exact Or.inl ⟨rfl, hb⟩
    · exact Or.inr h

theorem Memory.mem_write {m : Memory} {a : Nat} {b : Byte} {d : Host.Cell} (h : d ∈ m.write a b) :
    (d = (a, b) ∧ b ≠ Config.unlistedByte) ∨ d ∈ m := by
  induction m with
  | nil => exact Memory.mem_cons h
  | cons c m ih =>
    unfold Memory.write at h
    split_ifs at h with h1 h2
    · exact Memory.mem_cons h
    · exact (Memory.mem_cons h).imp_right (List.mem_cons_of_mem c)
    · rcases List.mem_cons.mp h with rfl | h
      · exact Or.inr (List.mem_cons_self ..)
      · exact (ih h).imp_right (List.mem_cons_of_mem c)

theorem Memory.wf_cons {a : Nat} {b : Byte} {m : Memory} (h : m.Wf) (ha : a < 0x10000) (hlt : ∀ c ∈ m, a < c.1) :
    (Memory.cons a b m).Wf := by
  refine ⟨?_, fun d hd => ?_⟩
  · unfold Memory.cons
    split_ifs
    · exact h.1
    · exact List.pairwise_cons.mpr ⟨hlt, h.1⟩
  · rcases Memory.mem_cons hd with ⟨rfl, hb⟩ | hd
    · exact ⟨hb, ha⟩
    · exact h.2 d hd

/-- A write keeps the canonical form. -/
theorem Memory.wf_write {m : Memory} (h : m.Wf) {a : Nat} (ha : a < 0x10000) (b : Byte) : (m.write a b).Wf := by
  induction m with
  | nil => exact Memory.wf_cons h ha (by simp)
  | cons c m ih =>
    have hlt : ∀ d ∈ m, c.1 < d.1 := (List.pairwise_cons.mp h.1).1
    have hm := Memory.wf_tail h
    unfold Memory.write
    split_ifs with h1 h2
    · refine Memory.wf_cons h ha (fun d hd => ?_)
      rcases List.mem_cons.mp hd with rfl | hd
      · exact h1
      · exact Nat.lt_trans h1 (hlt d hd)
    · exact Memory.wf_cons hm ha (fun d hd => h2 ▸ hlt d hd)
    · have hw := ih hm
      refine ⟨List.pairwise_cons.mpr ⟨fun d hd => ?_, hw.1⟩, fun d hd => ?_⟩
      · rcases Memory.mem_write hd with ⟨rfl, -⟩ | hd
        · show c.1 < a
          omega
        · exact hlt d hd
      · rcases List.mem_cons.mp hd with rfl | hd
        · exact h.2 _ (List.mem_cons_self ..)
        · exact hw.2 d hd

theorem memWrite_wf {m : Memory} (h : m.Wf) (a : Addr) (b : Byte) : (memWrite m a b).Wf := Memory.wf_write h a.isLt b

theorem memRead_memWrite {m : Memory} (h : m.Wf) (a : Addr) (b : Byte) (x : Addr) :
    memRead (memWrite m a b) x = if a = x then b else memRead m x := by
  simp [memRead, memWrite, Memory.read_write h, BitVec.toNat_inj]

theorem memWriteWord_wf {m : Memory} (h : m.Wf) (a : Addr) (w : Int) : (memWriteWord m a w).Wf :=
  memWrite_wf (memWrite_wf h a _) _ _

/-- A word written changes its two bytes, the low byte at the lower address, and no other (R11, R82, R85). -/
theorem memRead_memWriteWord {m : Memory} (h : m.Wf) (a : Addr) (w : Int) (x : Addr) :
    memRead (memWriteWord m a w) x =
      if x = a + 1 then byteOfInt (asr w 8) else if x = a then byteOfInt w else memRead m x := by
  rw [memWriteWord, memRead_memWrite (memWrite_wf h a _), memRead_memWrite h]
  simp only [eq_comm (a := x)]

theorem memOfCells_wf (cells : List Host.Cell) : (memOfCells cells).Wf := by
  suffices h : ∀ m : Memory, m.Wf → (cells.foldl (fun m c => memWrite m (BitVec.ofNat 16 c.1) c.2) m).Wf from h [] Memory.wf_nil
  induction cells with
  | nil => exact fun m hm => hm
  | cons c cells ih => exact fun m hm => ih _ (memWrite_wf hm _ _)

end Sys2Proof.Machine
end

