-- ==== Sys2Proof/Laws/Wf.lean ====
section
/-! SUPPORT. Every operation on the DSP keeps the invariants of 10_state.md R69: one lemma per shared operation. -/

namespace Sys2Proof.Machine

theorem signed16_zero : signed16 0 := by decide

theorem Voice.wf_reset : Voice.reset.Wf := by
  refine ⟨?_, ?_, ?_, ?_, ?_, ?_, ?_, ?_⟩ <;> decide

theorem Dsp.wf_voice {d : Dsp} (h : d.Wf) (v : VoiceId) : (d.voice v).Wf := h.2.2.2.2.2.2.2.2.2 v

theorem Dsp.wf_setVoice {d : Dsp} (h : d.Wf) (v : VoiceId) {x : Voice} (hx : x.Wf) : (d.setVoice v x).Wf := by
  obtain ⟨h1, h2, h3, h4, h5, h6, h7, h8, h9, h10⟩ := h
  refine ⟨h1, h2, h3, h4, h5, h6, h7, h8, h9, fun w => ?_⟩
  have := Dsp.voice_setVoice d v w x
  simp only [Dsp.voice] at this
  rw [this]
  split
  · exact hx
  · exact h10 w

theorem Dsp.wf_setReg {d : Dsp} (h : d.Wf) (a : RegAddr) (b : Byte) : (d.setReg a b).Wf := h

theorem Dsp.wf_writeRegister {d : Dsp} (h : d.Wf) (a : RegAddr) (b : Byte) : (d.writeRegister a b).Wf := by
  unfold Dsp.writeRegister
  split_ifs <;> exact h

theorem echoHist_reset (i : Fin 8) :
    (#v[Stereo.zero, .zero, .zero, .zero, .zero, .zero, .zero, .zero] : Vector Stereo 8)[i] = .zero := by
  revert i
  decide

theorem voices_reset (v : Fin 8) :
    (#v[Voice.reset, .reset, .reset, .reset, .reset, .reset, .reset, .reset] : Vector Voice 8)[v] = .reset := by
  revert v
  decide

theorem Dsp.wf_reset (image : Vector Byte 128) (mute : Byte) : (Dsp.reset image mute).Wf := by
  have hh : ∀ i : Fin 8, (Dsp.reset image mute).echoHist[i] = .zero := echoHist_reset
  have hv : ∀ v : Fin 8, (Dsp.reset image mute).voices[v] = .reset := voices_reset
  refine ⟨by simp [Dsp.reset], fun i => ?_, rfl, Or.inr rfl, by simp [Dsp.reset], le_refl 0, by simp [Dsp.reset, evenSample],
    ⟨signed16_zero, signed16_zero⟩, ⟨signed16_zero, signed16_zero⟩, fun v => ?_⟩
  · rw [hh i]
    decide
  · rw [hv v]
    exact Voice.wf_reset

/-! ### The decoder and the interpolator -/

theorem decodeSample_even (header first second : Byte) (pos : Nat) (buf : Vector Int 12) (k : Fin 4)
    (h : ∀ i : Fin 12, evenSample buf[i]) (i : Fin 12) : evenSample (decodeSample header first second pos buf k)[i] := by
  simp only [decodeSample, Fin.getElem_fin, Vector.getElem_set]
  split
  · exact sext16_double _
  · exact h i

theorem decodeFour_even (header first second : Byte) (pos : Nat) (buf : Vector Int 12)
    (h : ∀ i : Fin 12, evenSample buf[i]) (i : Fin 12) : evenSample (decodeFour header first second pos buf)[i] := by
  suffices hs : ∀ (ks : List (Fin 4)) (buf : Vector Int 12), (∀ i : Fin 12, evenSample buf[i]) →
      ∀ i : Fin 12, evenSample (ks.foldl (decodeSample header first second pos) buf)[i] from hs _ buf h i
  intro ks
  induction ks with
  | nil => exact fun buf h => h
  | cons k ks ih => exact fun buf h => ih _ (decodeSample_even header first second pos buf k h)

theorem decodeGroup_wf {d : Dsp} (h : d.Wf) (m : Memory) (v : VoiceId) : (decodeGroup m v d).Wf := by
  obtain ⟨hb, hp, hr⟩ := Dsp.wf_voice h v
  refine Dsp.wf_setVoice h v ⟨fun i => decodeFour_even _ _ _ _ _ hb i, ?_, hr⟩
  show ((d.voice v).bufPos + 4) % 12 = 0 ∨ ((d.voice v).bufPos + 4) % 12 = 4 ∨ ((d.voice v).bufPos + 4) % 12 = 8
  omega

theorem interpolate_even (p : Params) (x : Voice) : evenSample (interpolate p x) := clearLow_clamp16 _

/-! ### The envelope -/

theorem exponentialStep_range {env : Int} (h : 0 ≤ env ∧ env ≤ 0x7FF) :
    0 ≤ exponentialStep env ∧ exponentialStep env ≤ 0x7FF := by
  unfold exponentialStep asr
  omega

/-- The candidate of a step lies in -0x20..0xBFF (R272). -/
theorem gainStep_range (p : Params) (gain : Byte) (hidden : Int) {env : Int} (h : 0 ≤ env ∧ env ≤ 0x7FF) :
    -0x20 ≤ (gainStep p gain hidden env).1 ∧ (gainStep p gain hidden env).1 ≤ 0xBFF := by
  have h1 := exponentialStep_range h
  have h2 := directLevel_range gain
  unfold gainStep
  split
  · simp only [gainLinearDecreaseStep]; omega
  · simp only [gainExponentialDecreaseStep]; omega
  · simp only [gainLinearIncreaseStep]; omega
  · simp only [gainTwoSlopeIncreaseStep]; split_ifs <;> omega
  · simp only [gainDirectStep]; omega

theorem envelopeStep_range (p : Params) (adsr1 adsr2 gain : Byte) {x : Voice} (h : 0 ≤ x.env ∧ x.env ≤ 0x7FF) :
    -0x20 ≤ (envelopeStep p adsr1 adsr2 gain x).1 ∧ (envelopeStep p adsr1 adsr2 gain x).1 ≤ 0xBFF := by
  have h1 := exponentialStep_range h
  unfold envelopeStep
  split
  · split
    · simp only [attackStep]; split_ifs <;> omega
    · simp only [decayStep]; omega
    · simp only [sustainStep]; omega
    · simp only; omega
  · exact gainStep_range p gain _ h

theorem Voice.envelopeRun_wf {x : Voice} (h : x.Wf) (p : Params) (counter : Nat) (adsr1 adsr2 gain : Byte) :
    (x.envelopeRun p counter adsr1 adsr2 gain).Wf := by
  obtain ⟨hb, hp, hi, ho, hk, he, hh, ht⟩ := h
  unfold Voice.envelopeRun
  split
  · refine ⟨hb, hp, hi, ho, hk, ?_, hh, ht⟩
    show 0 ≤ releaseStep x.env ∧ releaseStep x.env ≤ 0x7FF
    unfold releaseStep
    omega
  · refine ⟨hb, hp, hi, ho, hk, ?_, envelopeStep_range p adsr1 adsr2 gain he, ht⟩
    show 0 ≤ (if _ then _ else _ : Int) ∧ (if _ then _ else _ : Int) ≤ 0x7FF
    split
    · exact clampLevel_range _
    · exact he

theorem envelopeRun_wf {d : Dsp} (h : d.Wf) (p : Params) (v : VoiceId) : (envelopeRun p v d).Wf :=
  Dsp.wf_setVoice h v (Voice.envelopeRun_wf (Dsp.wf_voice h v) ..)

/-! ### The voice micro-ops -/

theorem opV1_wf {d : Dsp} (h : d.Wf) (v : VoiceId) : (opV1 v d).Wf := h

theorem Dsp.wf_tPitch {d : Dsp} (h : d.Wf) {p : Int} (hp : 0 ≤ p) : ({ d with tPitch := p } : Dsp).Wf := by
  obtain ⟨h1, h2, h3, h4, h5, h6, h7, h8, h9, h10⟩ := h
  exact ⟨h1, h2, h3, h4, h5, hp, h7, h8, h9, h10⟩

theorem Dsp.wf_tPitch_nonneg {d : Dsp} (h : d.Wf) : 0 ≤ d.tPitch := h.2.2.2.2.2.1

theorem Dsp.wf_tOutput_even {d : Dsp} (h : d.Wf) : evenSample d.tOutput := h.2.2.2.2.2.2.1

theorem opV2_wf {d : Dsp} (h : d.Wf) (m : Memory) (v : VoiceId) : (opV2 m v d).Wf :=
  Dsp.wf_tPitch (d := { d with tBrrNextAddr := memReadWord m (directoryWord d v), tAdsr0 := d.reg (vreg v 5) }) h (by omega)

theorem opV3a_wf {d : Dsp} (h : d.Wf) (v : VoiceId) : (opV3a v d).Wf := by
  have h1 := pitchHigh_range (d.reg (vreg v 3))
  have h2 := Dsp.wf_tPitch_nonneg h
  exact Dsp.wf_tPitch h (by omega)

theorem opV3b_wf {d : Dsp} (h : d.Wf) (m : Memory) (v : VoiceId) : (opV3b m v d).Wf := h

/-- Pitch modulation keeps the pitch non-negative, because the output is at least -32768 (R206). -/
theorem modulated_nonneg {out pitch : Int} (ho : -32768 ≤ out) (hp : 0 ≤ pitch) : 0 ≤ pitch + asr (asr out 5 * pitch) 10 := by
  have h1 : -1024 ≤ asr out 5 := by unfold asr; omega
  have h2 : -1024 * pitch ≤ asr out 5 * pitch := mul_le_mul_of_nonneg_right h1 hp
  generalize asr out 5 * pitch = y at h2
  unfold asr
  omega

theorem pitchMod_wf {d : Dsp} (h : d.Wf) (v : VoiceId) : (pitchMod v d).Wf := by
  unfold pitchMod
  split
  · exact Dsp.wf_tPitch h (modulated_nonneg (Dsp.wf_tOutput_even h).2.1 (Dsp.wf_tPitch_nonneg h))
  · exact h

theorem Voice.startBlock_wf {x : Voice} (h : x.Wf) (start : Addr) : (x.startBlock start).Wf := by
  obtain ⟨hb, hp, hi, ho, hr⟩ := h
  exact ⟨hb, Or.inl rfl, hi, Or.inl rfl, hr⟩

theorem Voice.holdKeyOn_wf {x : Voice} (h : x.Wf) : x.holdKeyOn.Wf := by
  obtain ⟨hb, hp, hi, ho, hk, he, hh, ht⟩ := h
  refine ⟨hb, hp, ?_, ho, ?_, by simp [Voice.holdKeyOn], by simp [Voice.holdKeyOn], ht⟩
  · simp only [Voice.holdKeyOn]
    split_ifs <;> omega
  · simp only [Voice.holdKeyOn]
    omega

theorem keyOnSeq_wf {d : Dsp} (h : d.Wf) (v : VoiceId) : (keyOnSeq v d).Wf := by
  have hv := Dsp.wf_voice h v
  have hp : ∀ b, ({ d with tBrrHeader := b, tPitch := 0 } : Dsp).Wf := fun b => Dsp.wf_tPitch (d := { d with tBrrHeader := b }) h (le_refl 0)
  unfold keyOnSeq
  simp only
  split_ifs
  · exact h
  · exact Dsp.wf_setVoice (hp 0) v (Voice.holdKeyOn_wf (Voice.startBlock_wf hv _))
  · exact Dsp.wf_setVoice (hp d.tBrrHeader) v (Voice.holdKeyOn_wf hv)

theorem noiseSample_even (n : BitVec 15) : evenSample (noiseSample n) := sext16_double _

theorem rawSample_even (p : Params) (d : Dsp) (v : VoiceId) : evenSample (rawSample p d v) := by
  unfold rawSample
  split
  · exact noiseSample_even _
  · exact interpolate_even _ _

theorem voiceSample_wf {d : Dsp} (h : d.Wf) (p : Params) (v : VoiceId) : (voiceSample p v d).Wf := by
  have hv := Dsp.wf_voice h v
  have hr := rawSample_even p d v
  have hv' := hv
  obtain ⟨hb, hp, hi, ho, hk, he, hh, ht⟩ := hv'
  have hout := enveloped_range (output := rawSample p d v) (by omega) he
  unfold voiceSample
  refine Dsp.wf_setVoice ?_ v ⟨hb, hp, hi, ho, hk, he, hh, ?_⟩
  · obtain ⟨h1, h2, h3, h4, h5, h6, h7, h8, h9, h10⟩ := h
    exact ⟨h1, h2, h3, h4, h5, h6, ⟨hout.1, le_trans (by decide) hout.2.1, le_trans hout.2.2 (by decide)⟩, h8, h9, h10⟩
  · show (byteOfInt (asr (d.voice v).env 4)).toNat ≤ 0x7F
    unfold byteOfInt asr
    rw [BitVec.toNat_ofInt]
    omega

theorem Voice.wf_silence {x : Voice} (h : x.Wf) : ({ x with envMode := .release, env := 0 } : Voice).Wf := by
  obtain ⟨hb, hp, hi, ho, hk, he, hh, ht⟩ := h
  exact ⟨hb, hp, hi, ho, hk, ⟨le_refl 0, (by decide : (0 : Int) ≤ 0x7FF)⟩, hh, ht⟩

theorem forceRelease_wf {d : Dsp} (h : d.Wf) (v : VoiceId) : (forceRelease v d).Wf := by
  unfold forceRelease
  split
  · exact Dsp.wf_setVoice h v (Voice.wf_silence (Dsp.wf_voice h v))
  · exact h

theorem Voice.keyLatch_wf {x : Voice} (h : x.Wf) (off on : Bool) : (x.keyLatch off on).Wf := by
  obtain ⟨hb, hp, hi, ho, hk, he, hh, ht⟩ := h
  cases off <;> cases on
  · exact ⟨hb, hp, hi, ho, hk, he, hh, ht⟩
  · exact ⟨hb, hp, hi, ho, le_refl 5, he, hh, ht⟩
  · exact ⟨hb, hp, hi, ho, hk, he, hh, ht⟩
  · exact ⟨hb, hp, hi, ho, le_refl 5, he, hh, ht⟩

theorem keyLatch_wf {d : Dsp} (h : d.Wf) (v : VoiceId) : (keyLatch v d).Wf := by
  unfold keyLatch
  split
  · exact Dsp.wf_setVoice h v (Voice.keyLatch_wf (Dsp.wf_voice h v) _ _)
  · exact h

theorem envelopeGate_wf {d : Dsp} (h : d.Wf) (p : Params) (v : VoiceId) : (envelopeGate p v d).Wf := by
  unfold envelopeGate
  split
  · exact envelopeRun_wf h p v
  · exact h

theorem opV3c_wf {d : Dsp} (h : d.Wf) (p : Params) (v : VoiceId) : (opV3c p v d).Wf :=
  envelopeGate_wf (keyLatch_wf (forceRelease_wf (voiceSample_wf (keyOnSeq_wf (pitchMod_wf h v) v) p v) v) v) p v

theorem blockAdvance_wf {d : Dsp} (h : d.Wf) (v : VoiceId) : (blockAdvance v d).Wf := by
  obtain ⟨hb, hp, hi, ho, hr⟩ := Dsp.wf_voice h v
  unfold blockAdvance
  simp only
  split_ifs
  · exact Dsp.wf_setVoice (d := { d with tLooped := vbit v }) h v ⟨hb, hp, hi, Or.inl rfl, hr⟩
  · exact Dsp.wf_setVoice h v ⟨hb, hp, hi, Or.inl rfl, hr⟩
  · refine Dsp.wf_setVoice h v ⟨hb, hp, hi, ?_, hr⟩
    show (d.voice v).brrOffset + 2 = 1 ∨ (d.voice v).brrOffset + 2 = 3 ∨ (d.voice v).brrOffset + 2 = 5 ∨ (d.voice v).brrOffset + 2 = 7
    omega

theorem advancePosition_range {pos pitch : Int} (h : 0 ≤ pitch) :
    0 ≤ advancePosition pos pitch ∧ advancePosition pos pitch ≤ 0x7FFF := by
  unfold advancePosition
  split_ifs <;> omega

theorem pitchAdvance_wf {d : Dsp} (h : d.Wf) (v : VoiceId) : (pitchAdvance v d).Wf := by
  obtain ⟨hb, hp, -, hr⟩ := Dsp.wf_voice h v
  exact Dsp.wf_setVoice h v ⟨hb, hp, advancePosition_range (Dsp.wf_tPitch_nonneg h), hr⟩

theorem voiceOutput_wf {d : Dsp} (h : d.Wf) (v : VoiceId) (ch : Chan) : (voiceOutput v ch d).Wf := by
  obtain ⟨h1, h2, h3, h4, h5, h6, h7, h8, h9, h10⟩ := h
  refine ⟨h1, h2, h3, h4, h5, h6, h7, ?_, ?_, h10⟩
  · cases ch
    · exact ⟨clamp16_range _, h8.2⟩
    · exact ⟨h8.1, clamp16_range _⟩
  · simp only [voiceOutput]
    split
    · cases ch
      · exact ⟨clamp16_range _, h9.2⟩
      · exact ⟨h9.1, clamp16_range _⟩
    · exact h9

theorem decodeIfDue_wf {d : Dsp} (h : d.Wf) (m : Memory) (v : VoiceId) : (decodeIfDue m v d).Wf := by
  unfold decodeIfDue
  split
  · exact blockAdvance_wf (decodeGroup_wf h m v) v
  · exact h

theorem opV4_wf {d : Dsp} (h : d.Wf) (m : Memory) (v : VoiceId) : (opV4 m v d).Wf :=
  voiceOutput_wf (pitchAdvance_wf (decodeIfDue_wf (d := { d with tLooped := 0 }) h m v) v) v .left

theorem opV5_wf {d : Dsp} (h : d.Wf) (v : VoiceId) : (opV5 v d).Wf := voiceOutput_wf h v .right

theorem opV6_wf {d : Dsp} (h : d.Wf) (v : VoiceId) : (opV6 v d).Wf := h

theorem opV7_wf {d : Dsp} (h : d.Wf) (v : VoiceId) : (opV7 v d).Wf := h

theorem opV8_wf {d : Dsp} (h : d.Wf) (v : VoiceId) : (opV8 v d).Wf := h

theorem opV9_wf {d : Dsp} (h : d.Wf) (v : VoiceId) : (opV9 v d).Wf := h

/-! ### The echo micro-ops -/

theorem Dsp.wf_echoHist {d : Dsp} (h : d.Wf) (i : Fin 8) {x : Stereo} (hx : halfSample x.l ∧ halfSample x.r) :
    ({ d with echoHist := d.echoHist.set i x } : Dsp).Wf := by
  obtain ⟨h1, h2, hr⟩ := h
  refine ⟨h1, fun j => ?_, hr⟩
  simp only [Fin.getElem_fin, Vector.getElem_set]
  split
  · exact hx
  · exact h2 j

theorem echoRead_wf {d : Dsp} (h : d.Wf) (m : Memory) (ch : Chan) : (echoRead m ch d).Wf := by
  have h2 := h.2.1 d.echoHistPos
  refine Dsp.wf_echoHist h _ ?_
  cases ch
  · exact ⟨halved_range _, h2.2⟩
  · exact ⟨h2.1, halved_range _⟩

theorem opE22_wf {d : Dsp} (h : d.Wf) (m : Memory) : (opE22 m d).Wf :=
  echoRead_wf (d := { d with
    echoHistPos := d.echoHistPos + 1
    tEchoPtr := BitVec.ofNat 16 (d.tEsa.toNat * 0x100 + d.echoOffset) }) h m .left

theorem opE23_wf {d : Dsp} (h : d.Wf) (m : Memory) : (opE23 m d).Wf :=
  echoRead_wf (d := { d with tEchoIn := (d.tEchoIn.add (firTap d 1)).add (firTap d 2) }) h m .right

theorem opE24_wf {d : Dsp} (h : d.Wf) : (opE24 d).Wf := h

theorem opE25_wf {d : Dsp} (h : d.Wf) : (opE25 d).Wf := h

theorem opE26_wf {d : Dsp} (h : d.Wf) (p : Params) : (opE26 p d).Wf := by
  obtain ⟨h1, h2, h3, h4, h5, h6, h7, h8, h9, h10⟩ := h
  have hl := clearLow_clamp16 (d.tEchoOut.get .left + vol16 p (asr (d.tEchoIn.get .left * sext8 (d.reg 0x0D)) 7))
  have hr := clearLow_clamp16 (d.tEchoOut.get .right + vol16 p (asr (d.tEchoIn.get .right * sext8 (d.reg 0x0D)) 7))
  refine ⟨h1, h2, h3, h4, h5, h6, h7, ⟨clamp16_range _, h8.2⟩, ⟨⟨hl.2.1, ?_⟩, ⟨hr.2.1, ?_⟩⟩, h10⟩
  · exact le_trans hl.2.2 (by decide)
  · exact le_trans hr.2.2 (by decide)

/-- The emitted pair is a pair of signed 16-bit values (R58, R309). -/
theorem emittedPair_signed16 {d : Dsp} (h : d.Wf) (p : Params) :
    signed16 (emittedPair p d).l ∧ signed16 (emittedPair p d).r := by
  unfold emittedPair
  split
  · exact ⟨signed16_zero, signed16_zero⟩
  · exact ⟨h.2.2.2.2.2.2.2.1.1, clamp16_range _⟩

theorem opE27_wf {s : State} (h : s.dsp.Wf) : (opE27 s).dsp.Wf := by
  obtain ⟨h1, h2, h3, h4, h5, h6, h7, h8, h9, h10⟩ := h
  exact ⟨h1, h2, h3, h4, h5, h6, h7, ⟨signed16_zero, signed16_zero⟩, h9, h10⟩

theorem opE28_wf {d : Dsp} (h : d.Wf) : (opE28 d).Wf := h

/-- The offset stays a multiple of 4 below the length, or 0 (R52, R311). -/
theorem advanceEcho_wf {d : Dsp} (h : d.Wf) : (advanceEcho d).Wf := by
  obtain ⟨h1, h2, h3, h4, h5, h6, h7, h8, h9, h10⟩ := h
  have hl : nextEchoLength d % 0x800 = 0 ∧ nextEchoLength d ≤ 0x7800 := by
    unfold nextEchoLength echoLengthOf
    split
    · omega
    · exact h5
  refine ⟨h1, h2, ?_, ?_, hl, h6, h7, h8, h9, h10⟩
  · simp only [advanceEcho]
    split <;> omega
  · simp only [advanceEcho]
    split <;> omega

theorem echoWrite_wf {s : State} (h : s.dsp.Wf) (ch : Chan) : (echoWrite ch s).dsp.Wf := by
  obtain ⟨h1, h2, h3, h4, h5, h6, h7, h8, h9, h10⟩ := h
  refine ⟨h1, h2, h3, h4, h5, h6, h7, h8, ?_, h10⟩
  cases ch
  · exact ⟨signed16_zero, h9.2⟩
  · exact ⟨h9.1, signed16_zero⟩

theorem opE29_wf {s : State} (h : s.dsp.Wf) : (opE29 s).dsp.Wf :=
  echoWrite_wf (s := s.mapDsp advanceEcho) (advanceEcho_wf h) .left

theorem opE30_wf {s : State} (h : s.dsp.Wf) : (opE30 s).dsp.Wf := echoWrite_wf h .right

/-! ### The global micro-ops and the tick -/

theorem opM27_wf {d : Dsp} (h : d.Wf) : (opM27 d).Wf := h

theorem opM28_wf {d : Dsp} (h : d.Wf) : (opM28 d).Wf := h

theorem opM29_wf {d : Dsp} (h : d.Wf) : (opM29 d).Wf := h

theorem loadKeys_wf {d : Dsp} (h : d.Wf) : (loadKeys d).Wf := by
  unfold loadKeys
  split <;> exact h

theorem runCounter_lt {n : Nat} (h : n < 30720) : runCounter n < 30720 := by
  unfold runCounter
  split <;> omega

theorem noiseStep_wf {d : Dsp} (h : d.Wf) (p : Params) : (noiseStep p d).Wf := by
  unfold noiseStep
  split <;> exact h

theorem opM30_wf {d : Dsp} (h : d.Wf) (p : Params) : (opM30 p d).Wf := by
  have hk := loadKeys_wf h
  refine noiseStep_wf (d := { loadKeys d with counter := runCounter (loadKeys d).counter }) ?_ p
  exact ⟨runCounter_lt hk.1, hk.2⟩

/-- Every micro-op keeps the invariants of the DSP. -/
theorem runMicroOp_wf {s : State} (h : s.dsp.Wf) (op : MicroOp) : (runMicroOp op s).dsp.Wf := by
  cases op with
  | v1 v => exact opV1_wf h v
  | v2 v => exact opV2_wf h _ v
  | v3a v => exact opV3a_wf h v
  | v3b v => exact opV3b_wf h _ v
  | v3c v => exact opV3c_wf h _ v
  | v4 v => exact opV4_wf h _ v
  | v5 v => exact opV5_wf h v
  | v6 v => exact opV6_wf h v
  | v7 v => exact opV7_wf h v
  | v8 v => exact opV8_wf h v
  | v9 v => exact opV9_wf h v
  | e22 => exact opE22_wf h _
  | e23 => exact opE23_wf h _
  | e24 => exact opE24_wf h
  | e25 => exact opE25_wf h
  | e26 => exact opE26_wf h _
  | e27 => exact opE27_wf h
  | e28 => exact opE28_wf h
  | e29 => exact opE29_wf h
  | e30 => exact opE30_wf h
  | m27 => exact opM27_wf h
  | m28 => exact opM28_wf h
  | m29 => exact opM29_wf h
  | m30 => exact opM30_wf h _

end Sys2Proof.Machine
end

