-- ==== Sys2Proof/Laws/Schedule.lean ====
section
/-! SUPPORT. What a micro-op, a row, a tick and a run of ticks do to the whole state: the parts they leave to the Host, ARAM's form,
and the phase (40_phase_scheduler.md R160, R161). -/

namespace Sys2Proof.Machine

theorem SameHost.refl (s : State) : SameHost s s := ⟨rfl, rfl, rfl, rfl, rfl⟩

theorem SameHost.trans {s t u : State} (h : SameHost s t) (h' : SameHost t u) : SameHost s u :=
  ⟨h'.params.trans h.params, h'.resampler.trans h.resampler, h'.issued.trans h.issued,
    h'.hostBytes.trans h.hostBytes, h'.results.trans h.results⟩

theorem mapDsp_sameHost (s : State) (g : Dsp → Dsp) : SameHost s (s.mapDsp g) := ⟨rfl, rfl, rfl, rfl, rfl⟩

/-- A micro-op leaves the parameters, the resampler and the Host's side alone (R68, R98). -/
theorem runMicroOp_sameHost (op : MicroOp) (s : State) : SameHost s (runMicroOp op s) := by
  cases op <;> exact ⟨rfl, rfl, rfl, rfl, rfl⟩

theorem echoStore_wf {m : Memory} (h : m.Wf) (ch : Chan) (d : Dsp) : (echoStore ch d m).Wf := by
  unfold echoStore
  split
  · exact h
  · exact memWriteWord_wf h _ _

/-- A micro-op keeps ARAM's canonical form. -/
theorem runMicroOp_aram_wf {s : State} (h : s.aram.Wf) (op : MicroOp) : (runMicroOp op s).aram.Wf := by
  cases op
  case e29 => exact echoStore_wf h .left _
  case e30 => exact echoStore_wf h .right _
  all_goals exact h

/-- Only the two echo writes store to ARAM (R86, R98). -/
theorem runMicroOp_aram {op : MicroOp} (h29 : op ≠ .e29) (h30 : op ≠ .e30) (s : State) : (runMicroOp op s).aram = s.aram := by
  cases op <;> first | rfl | contradiction

/-- The phase is written by the tick alone, never by a micro-op (R46). -/
theorem runMicroOp_phase (op : MicroOp) (s : State) : (runMicroOp op s).dsp.phase = s.dsp.phase := by
  cases op <;> try rfl
  case v3c v => exact (congrArg Dsp.phase (opV3c_frame s.params v s.dsp) :)
  case v4 v => exact (congrArg Dsp.phase (opV4_frame s.aram v s.dsp) :)
  case m30 => exact (congrArg Dsp.phase (opM30_frame s.params s.dsp) :)

/-- A property every micro-op keeps is kept by a row. -/
theorem runRow_keeps {P : State → Prop} (h : ∀ op s, P s → P (runMicroOp op s)) (p : Fin 32) {s : State} (hs : P s) : P (runRow p s) := by
  suffices hl : ∀ (ops : List MicroOp) (s : State), P s → P (ops.foldl (fun s op => runMicroOp op s) s) from hl _ s hs
  intro ops
  induction ops with
  | nil => exact fun s hs => hs
  | cons op ops ih => exact fun s hs => ih _ (h op s hs)

theorem runRow_sameHost (p : Fin 32) (s : State) : SameHost s (runRow p s) :=
  runRow_keeps (P := SameHost s) (fun op t ht => ht.trans (runMicroOp_sameHost op t)) p (SameHost.refl s)

theorem phaseStep_sameHost (p : Fin 32) (s : State) : SameHost s (phaseStep p s) :=
  (runRow_sameHost p s).trans (mapDsp_sameHost _ _)

theorem phaseStep_phase (p : Fin 32) (s : State) : (phaseStep p s).dsp.phase = p + 1 := rfl

theorem phaseStep_dsp_wf {s : State} (h : s.dsp.Wf) (p : Fin 32) : (phaseStep p s).dsp.Wf :=
  runRow_keeps (P := fun t => t.dsp.Wf) (fun op _ ht => runMicroOp_wf ht op) p h

theorem phaseStep_aram_wf {s : State} (h : s.aram.Wf) (p : Fin 32) : (phaseStep p s).aram.Wf :=
  runRow_keeps (P := fun t => t.aram.Wf) (fun op _ ht => runMicroOp_aram_wf ht op) p h

/-- A property every tick keeps is kept by a run of ticks. -/
theorem runTicks_keeps {P : State → Prop} (h : ∀ s, P s → P (tick s)) (n : Nat) {s : State} (hs : P s) : P (runTicks n s) := by
  induction n generalizing s with
  | zero => exact hs
  | succ n ih => exact ih (h s hs)

theorem runTicks_sameHost (n : Nat) (s : State) : SameHost s (runTicks n s) :=
  runTicks_keeps (P := SameHost s) (fun t ht => ht.trans (phaseStep_sameHost _ t)) n (SameHost.refl s)

theorem runTicks_dsp_wf {s : State} (h : s.dsp.Wf) (n : Nat) : (runTicks n s).dsp.Wf :=
  runTicks_keeps (P := fun t => t.dsp.Wf) (fun _ ht => phaseStep_dsp_wf ht _) n h

theorem runTicks_aram_wf {s : State} (h : s.aram.Wf) (n : Nat) : (runTicks n s).aram.Wf :=
  runTicks_keeps (P := fun t => t.aram.Wf) (fun _ ht => phaseStep_aram_wf ht _) n h

end Sys2Proof.Machine
end

