-- ==== Sys2Proof/Laws/Exec.lean ====
section
/-! SUPPORT. What the arms of `exec` answer: a row, a micro-op, a register access; M30 and a stored register in one equation each. -/

namespace Sys2Proof.Machine

/-- A phase's instruction runs that row (R124, R161). -/
theorem exec_phaseInstr (p : Fin 32) (s : State) : exec (phaseInstr p) s = .next (phaseStep p s) := by
  fin_cases p <;> rfl

/-- A micro-op's instruction runs that micro-op (entry 15). -/
theorem exec_microInstr (op : MicroOp) (s : State) : exec (microInstr op) s = .next (runMicroOp op s) := by
  cases op <;> first | rfl | (rename_i v; fin_cases v <;> rfl)

/-- A register's instruction is the access to its address (R111). -/
theorem exec_regRow (acc : RegAccess) (x : Fin 8) (r : Fin 16) (s : State) :
    exec (regRow acc x r) s = .next (accessRegister (vreg x r) acc s) := by
  fin_cases x <;> fin_cases r <;> rfl

/-- M30 in one equation (R167, R168, R291, R292): the fields it writes, each from the state before. -/
theorem opM30_eq (p : Params) (d : Dsp) : opM30 p d = { d with
    kon := if d.everyOtherSample then d.newKon else d.kon
    tKoff := if d.everyOtherSample then d.reg 0x5C else d.tKoff
    counter := runCounter d.counter
    noise := if noiseDue p { d with counter := runCounter d.counter } then noiseNext p.noiseTaps d.noise else d.noise } := by
  have h : noiseDue p { loadKeys d with counter := runCounter (loadKeys d).counter } = noiseDue p { d with counter := runCounter d.counter } := by
    unfold loadKeys; split <;> rfl
  unfold opM30 noiseStep
  simp only [h]
  unfold loadKeys
  split <;> split <;> rfl

/-- A register stored changes the DSP only (R362). -/
theorem storeRegister_eq (a : RegAddr) (b : Byte) (s : State) :
    storeRegister a b s = { s with dsp := s.dsp.writeRegister a b } := rfl

@[simp] theorem storeRegister_params (a : RegAddr) (b : Byte) (s : State) : (storeRegister a b s).params = s.params := rfl

@[simp] theorem storeRegister_aram (a : RegAddr) (b : Byte) (s : State) : (storeRegister a b s).aram = s.aram := rfl

@[simp] theorem storeRegister_out (a : RegAddr) (b : Byte) (s : State) : (storeRegister a b s).out = s.out := rfl

@[simp] theorem storeRegister_resampler (a : RegAddr) (b : Byte) (s : State) : (storeRegister a b s).resampler = s.resampler := rfl


@[simp] theorem storeRegister_issued (a : RegAddr) (b : Byte) (s : State) : (storeRegister a b s).issued = s.issued := rfl

@[simp] theorem storeRegister_hostBytes (a : RegAddr) (b : Byte) (s : State) : (storeRegister a b s).hostBytes = s.hostBytes := rfl

@[simp] theorem storeRegister_results (a : RegAddr) (b : Byte) (s : State) : (storeRegister a b s).results = s.results := rfl

@[simp] theorem storeRegister_dsp (a : RegAddr) (b : Byte) (s : State) : (storeRegister a b s).dsp = s.dsp.writeRegister a b := rfl

end Sys2Proof.Machine
end

