-- ==== Sys2Proof/Laws/Voice.lean ====
section
/-! SUPPORT. What V3c and V4 do to a voice, in one equation each, so that no proof splits their parts again
(41_voice_pipeline.md R205 to R215). -/

namespace Sys2Proof.Machine

/-- The voice after the key-on sequence (R207). -/
def Voice.keyed (start : Addr) (x : Voice) : Voice :=
  if x.konDelay = 0 then x
  else if x.konDelay = 5 then (x.startBlock start).holdKeyOn
  else x.holdKeyOn

/-- The key-on sequence in one equation (R207). -/
theorem keyOnSeq_eq (v : VoiceId) (d : Dsp) :
    keyOnSeq v d = Dsp.setVoice { d with
      tPitch := if (d.voice v).konDelay = 0 then d.tPitch else 0
      tBrrHeader := if (d.voice v).konDelay = 5 then 0 else d.tBrrHeader } v ((d.voice v).keyed d.tBrrNextAddr) := by
  unfold keyOnSeq Voice.keyed
  simp only
  by_cases h0 : (d.voice v).konDelay = 0
  · simp [h0]
  · by_cases h5 : (d.voice v).konDelay = 5
    · simp [h5]
    · simp [h0, h5]

/-- Pitch modulation in one equation (R206). -/
theorem pitchMod_eq (v : VoiceId) (d : Dsp) :
    pitchMod v d = { d with
      tPitch := if hasBit d.tPmon v then d.tPitch + asr (asr d.tOutput 5 * d.tPitch) 10 else d.tPitch } := by
  unfold pitchMod
  split <;> rfl

/-- The forced release (R209). -/
def Voice.released (force : Bool) (x : Voice) : Voice := if force then { x with envMode := .release, env := 0 } else x

/-- The voice's sample for ENVX, the forced release, the key latch and the envelope, in order (R208 to R211). -/
def Voice.settled (p : Params) (d : Dsp) (v : VoiceId) (force : Bool) (x : Voice) : Voice :=
  let y := ({ x with tEnvxOut := byteOfInt (asr x.env 4) } : Voice).released force
  let z := if d.everyOtherSample then y.keyLatch (hasBit d.tKoff v) (hasBit d.kon v) else y
  if z.konDelay = 0 then z.envelopeRun p d.counter d.tAdsr0 (d.reg (vreg v 6)) (d.reg (vreg v 7)) else z

/-- What follows the sample, in one equation (R208 to R211). -/
theorem afterKeyOn_eq (p : Params) (v : VoiceId) (d : Dsp) :
    envelopeGate p v (keyLatch v (forceRelease v (voiceSample p v d))) =
      Dsp.setVoice { d with tOutput := enveloped (rawSample p d v) (d.voice v).env } v
        ((d.voice v).settled p d v (flgReset (d.reg 0x6C) || headerTerminates d.tBrrHeader)) := by
  have h1 : ∀ (e : Dsp) (y : Voice), forceRelease v (e.setVoice v y) =
      e.setVoice v (y.released (flgReset (e.reg 0x6C) || headerTerminates e.tBrrHeader)) := by
    intro e y
    unfold forceRelease Voice.released
    simp only [Dsp.reg_setVoice, Dsp.setVoice_tBrrHeader, Dsp.voice_setVoice_self, Dsp.setVoice_setVoice, Bool.or_eq_true]
    split <;> rfl
  have h2 : ∀ (e : Dsp) (y : Voice), keyLatch v (e.setVoice v y) =
      e.setVoice v (if e.everyOtherSample then y.keyLatch (hasBit e.tKoff v) (hasBit e.kon v) else y) := by
    intro e y
    unfold keyLatch
    simp only [Dsp.setVoice_everyOtherSample, Dsp.voice_setVoice_self, Dsp.setVoice_setVoice, Dsp.setVoice_tKoff, Dsp.setVoice_kon]
    split <;> rfl
  have h3 : ∀ (e : Dsp) (z : Voice), envelopeGate p v (e.setVoice v z) =
      e.setVoice v (if z.konDelay = 0 then z.envelopeRun p e.counter e.tAdsr0 (e.reg (vreg v 6)) (e.reg (vreg v 7)) else z) := by
    intro e z
    unfold envelopeGate envelopeRun
    simp only [Dsp.voice_setVoice_self, Dsp.setVoice_setVoice, Dsp.setVoice_counter, Dsp.setVoice_tAdsr0, Dsp.reg_setVoice]
    split <;> rfl
  unfold voiceSample
  rw [h1, h2, h3]
  rfl

/-- V3c in one equation (R205). -/
theorem opV3c_eq (p : Params) (v : VoiceId) (d : Dsp) :
    opV3c p v d =
      let e := keyOnSeq v (pitchMod v d)
      Dsp.setVoice { e with tOutput := enveloped (rawSample p e v) (e.voice v).env } v
        ((e.voice v).settled p e v (flgReset (e.reg 0x6C) || headerTerminates e.tBrrHeader)) :=
  afterKeyOn_eq p v _

/-- The voice after V3c, from the voice before it (R205). -/
theorem opV3c_voice (p : Params) (v : VoiceId) (d : Dsp) :
    (opV3c p v d).voice v =
      ((d.voice v).keyed d.tBrrNextAddr).settled p d v
        (flgReset (d.reg 0x6C) || headerTerminates (if (d.voice v).konDelay = 5 then 0 else d.tBrrHeader)) := by
  rw [opV3c_eq, pitchMod_eq, keyOnSeq_eq]
  simp only [Dsp.voice_setVoice_self]
  rfl

/-- The output after V3c (R208). -/
theorem opV3c_tOutput (p : Params) (v : VoiceId) (d : Dsp) :
    (opV3c p v d).tOutput =
      enveloped (if hasBit d.tNon v then noiseSample d.noise else interpolate p ((d.voice v).keyed d.tBrrNextAddr))
        ((d.voice v).keyed d.tBrrNextAddr).env := by
  rw [opV3c_eq, pitchMod_eq, keyOnSeq_eq]
  simp only [Dsp.setVoice_tOutput, Dsp.voice_setVoice_self]
  unfold rawSample
  simp only [Dsp.setVoice_tNon, Dsp.setVoice_noise, Dsp.voice_setVoice_self]
  rfl

/-- The pitch after V3c (R206, R207). -/
theorem opV3c_tPitch (p : Params) (v : VoiceId) (d : Dsp) :
    (opV3c p v d).tPitch =
      if (d.voice v).konDelay = 0 then
        if hasBit d.tPmon v then d.tPitch + asr (asr d.tOutput 5 * d.tPitch) 10 else d.tPitch
      else 0 := by
  rw [opV3c_eq, pitchMod_eq, keyOnSeq_eq]
  rfl

/-- The header latch after V3c (R207). -/
theorem opV3c_tBrrHeader (p : Params) (v : VoiceId) (d : Dsp) :
    (opV3c p v d).tBrrHeader = if (d.voice v).konDelay = 5 then 0 else d.tBrrHeader := by
  rw [opV3c_eq, pitchMod_eq, keyOnSeq_eq]
  rfl

/-- The fields of a voice that only the key-on sequence and ENVX's capture write in V3c (R205). -/
theorem Voice.settled_other (p : Params) (d : Dsp) (v : VoiceId) (force : Bool) (x : Voice) :
    x.settled p d v force = { x with
      tEnvxOut := byteOfInt (asr x.env 4)
      konDelay := (x.settled p d v force).konDelay
      envMode := (x.settled p d v force).envMode
      env := (x.settled p d v force).env
      hiddenEnv := (x.settled p d v force).hiddenEnv } := by
  unfold Voice.settled Voice.released Voice.keyLatch Voice.envelopeRun settleEnvelope
  simp only
  split_ifs <;> rfl

/-- The voice after a group is decoded and the block advances (R212, R213, R240). -/
def Voice.decoded (header first second : Byte) (next : Addr) (x : Voice) : Voice :=
  { x with
    buf := decodeFour header first second x.bufPos x.buf
    bufPos := (x.bufPos + 4) % 12
    brrOffset := if x.brrOffset + 2 ≥ 9 then 1 else x.brrOffset + 2
    brrAddr := if x.brrOffset + 2 ≥ 9 then (if headerEnd header then next else x.brrAddr + 9) else x.brrAddr }

/-- The block advance in one equation (R213). -/
theorem blockAdvance_eq (v : VoiceId) (d : Dsp) :
    blockAdvance v d = Dsp.setVoice { d with
      tLooped := if (d.voice v).brrOffset + 2 ≥ 9 ∧ headerEnd d.tBrrHeader = true then vbit v else d.tLooped } v
      { d.voice v with
        brrOffset := if (d.voice v).brrOffset + 2 ≥ 9 then 1 else (d.voice v).brrOffset + 2
        brrAddr := if (d.voice v).brrOffset + 2 ≥ 9 then
            (if headerEnd d.tBrrHeader then d.tBrrNextAddr else (d.voice v).brrAddr + 9) else (d.voice v).brrAddr } := by
  unfold blockAdvance
  simp only
  by_cases h : (d.voice v).brrOffset + 2 ≥ 9
  · cases hb : headerEnd d.tBrrHeader <;> simp [h]
  · simp [h]

/-- The decode of V4 in one equation (R212). -/
theorem decodeIfDue_eq (m : Memory) (v : VoiceId) (d : Dsp) :
    decodeIfDue m v d = Dsp.setVoice { d with
      tLooped := if (d.voice v).interpPos ≥ 0x4000 ∧ (d.voice v).brrOffset + 2 ≥ 9 ∧ headerEnd d.tBrrHeader = true then vbit v
        else d.tLooped } v
      (if (d.voice v).interpPos ≥ 0x4000 then
        (d.voice v).decoded d.tBrrHeader d.tBrrByte (memRead m ((d.voice v).brrAddr + BitVec.ofNat 16 ((d.voice v).brrOffset + 1)))
          d.tBrrNextAddr
      else d.voice v) := by
  unfold decodeIfDue
  by_cases h : (d.voice v).interpPos ≥ 0x4000
  · rw [if_pos h, blockAdvance_eq]
    unfold decodeGroup
    simp only [Dsp.voice_setVoice_self, Dsp.setVoice_tBrrHeader, Dsp.setVoice_tLooped, Dsp.setVoice_tBrrNextAddr, h, true_and, if_true]
    unfold Voice.decoded
    exact Dsp.setVoice_setVoice { d with
      tLooped := if (d.voice v).brrOffset + 2 ≥ 9 ∧ headerEnd d.tBrrHeader = true then vbit v else d.tLooped } v _ _
  · simp [h]

/-- V4 in one equation (R212). -/
theorem opV4_eq (m : Memory) (v : VoiceId) (d : Dsp) :
    opV4 m v d = voiceOutput v .left (Dsp.setVoice { d with
      tLooped := if (d.voice v).interpPos ≥ 0x4000 ∧ (d.voice v).brrOffset + 2 ≥ 9 ∧ headerEnd d.tBrrHeader = true then vbit v
        else 0 } v
      { (if (d.voice v).interpPos ≥ 0x4000 then
          (d.voice v).decoded d.tBrrHeader d.tBrrByte (memRead m ((d.voice v).brrAddr + BitVec.ofNat 16 ((d.voice v).brrOffset + 1)))
            d.tBrrNextAddr
        else d.voice v) with interpPos := advancePosition (d.voice v).interpPos d.tPitch }) := by
  have h0 : ({ d with tLooped := 0 } : Dsp).voice v = d.voice v := rfl
  unfold opV4
  rw [decodeIfDue_eq, h0]
  unfold pitchAdvance
  simp only [Dsp.voice_setVoice_self, Dsp.setVoice_tPitch, Dsp.setVoice_setVoice]
  congr 3
  split <;> rfl

end Sys2Proof.Machine
end

