-- ==== Sys2Proof/Tests/Slice0.lean ====
section
/-! SUPPORT. The model's own tests. Expected values come from outside the model: the encoding tables of 30_encoding.md, the examples
of the rules, the vectors X<section>.<n> of 95_test_vectors.md. Then the witnesses of the statements' hypotheses. -/

namespace Sys2Proof.Tests

open Sys2Proof Sys2Proof.Machine

-- one theorem after another: the kernel evaluations below, run together, would each take a thread
set_option Elab.async false

/-! ### Well-formedness: one ill-formed term for each check, and a boundary term that passes -/

/-- Every check refuses its ill-formed terms. -/
theorem test_wellFormed_refuses :
    [Instr.writeReg 256 0, .writeReg (-1) 0, .writeReg 0 256, .writeReg 0 (-1), .readReg 256, .readReg (-1), .run (-1), .run 4294967296,
     .muteVoices 256, .muteVoices (-1), .frames 134217728, .construct (some ⟨0x10000, [(0x10000, 1)]⟩),
     .brrShiftValid 0 13 0 false false, .brrShiftInvalid 0 0 0 false false].all (fun i => !wellFormed i) = true := by decide +kernel

/-- The same checks pass at their last good values. -/
theorem test_wellFormed_accepts :
    [Instr.writeReg 255 255, .readReg 0, .run 4294967295, .muteVoices 255, .frames 134217727,
     .construct (some ⟨0x10000, [(0xFFFF, 1)]⟩), .brrShiftValid 0 12 0 false false, .brrShiftInvalid 0 3 0 false false].all wellFormed = true := by
  decide +kernel

/-! ### Decoding: words written out from the spec's encodings -/

/-- Each one-byte word decodes in its format to the instruction beside it, with nothing left. -/
def readsAs (f : Format) (rows : List (Byte × Instr)) : Bool :=
  rows.all (fun r =>
    match decode f [r.1] with
    | .ok (i, []) => decide (i = r.2)
    | _ => false)

/-- R124: the phase index in five bits, row by row. -/
theorem test_decode_phases : readsAs .ph [
    (0b00000, .ph0), (0b00001, .ph1), (0b00010, .ph2), (0b00011, .ph3), (0b00100, .ph4), (0b00101, .ph5), (0b00110, .ph6),
    (0b00111, .ph7), (0b01000, .ph8), (0b01001, .ph9), (0b01010, .ph10), (0b01011, .ph11), (0b01100, .ph12), (0b01101, .ph13),
    (0b01110, .ph14), (0b01111, .ph15), (0b10000, .ph16), (0b10001, .ph17), (0b10010, .ph18), (0b10011, .ph19), (0b10100, .ph20),
    (0b10101, .ph21), (0b10110, .ph22), (0b10111, .ph23), (0b11000, .ph24), (0b11001, .ph25), (0b11010, .ph26), (0b11011, .ph27),
    (0b11100, .ph28), (0b11101, .ph29), (0b11110, .ph30), (0b11111, .ph31)] = true := by decide +kernel

/-- R162: micro-op instances, by the phase (low five bits) and the slot (entry 17) the opcode table gives each; part 1. -/
theorem test_decode_micro_ops_1 : readsAs .uop [
    (0b00000000, .v5_0), (0b00100000, .v2_1), (0b00000001, .v6_0), (0b00100001, .v3a_1), (0b01000001, .v3b_1), (0b01100001, .v3c_1),
    (0b00000010, .v7_0), (0b00100010, .v4_1), (0b01000010, .v1_3), (0b00000011, .v8_0), (0b00100011, .v5_1), (0b01000011, .v2_2),
    (0b00000100, .v9_0), (0b00100100, .v6_1), (0b01000100, .v3a_2), (0b01100100, .v3b_2), (0b10000100, .v3c_2), (0b00000101, .v7_1),
    (0b00100101, .v4_2), (0b01000101, .v1_4), (0b00000110, .v8_1), (0b00100110, .v5_2), (0b01000110, .v2_3), (0b00000111, .v9_1),
    (0b00100111, .v6_2), (0b01000111, .v3a_3), (0b01100111, .v3b_3), (0b10000111, .v3c_3), (0b00001000, .v7_2), (0b00101000, .v4_3),
    (0b01001000, .v1_5), (0b00001001, .v8_2), (0b00101001, .v5_3), (0b01001001, .v2_4)] = true := by decide +kernel

/-- R162: micro-op instances, by the phase (low five bits) and the slot (entry 17) the opcode table gives each; part 2. -/
theorem test_decode_micro_ops_2 : readsAs .uop [
    (0b00001010, .v9_2), (0b00101010, .v6_3), (0b01001010, .v3a_4), (0b01101010, .v3b_4), (0b10001010, .v3c_4), (0b00001011, .v7_3),
    (0b00101011, .v4_4), (0b01001011, .v1_6), (0b00001100, .v8_3), (0b00101100, .v5_4), (0b01001100, .v2_5), (0b00001101, .v9_3),
    (0b00101101, .v6_4), (0b01001101, .v3a_5), (0b01101101, .v3b_5), (0b10001101, .v3c_5), (0b00001110, .v7_4), (0b00101110, .v4_5),
    (0b01001110, .v1_7), (0b00001111, .v8_4), (0b00101111, .v5_5), (0b01001111, .v2_6), (0b00010000, .v9_4), (0b00110000, .v6_5),
    (0b01010000, .v3a_6), (0b01110000, .v3b_6), (0b10010000, .v3c_6), (0b00010001, .v1_0), (0b00110001, .v7_5), (0b01010001, .v4_6),
    (0b00010010, .v8_5), (0b00110010, .v5_6), (0b01010010, .v2_7), (0b00010011, .v9_5)] = true := by decide +kernel

/-- R162: micro-op instances, by the phase (low five bits) and the slot (entry 17) the opcode table gives each; part 3. -/
theorem test_decode_micro_ops_3 : readsAs .uop [
    (0b00110011, .v6_6), (0b01010011, .v3a_7), (0b01110011, .v3b_7), (0b10010011, .v3c_7), (0b00010100, .v1_1), (0b00110100, .v7_6),
    (0b01010100, .v4_7), (0b00010101, .v8_6), (0b00110101, .v5_7), (0b01010101, .v2_0), (0b00010110, .v3a_0), (0b00110110, .v9_6),
    (0b01010110, .v6_7), (0b01110110, .e22), (0b00010111, .v7_7), (0b00110111, .e23), (0b00011000, .v8_7), (0b00111000, .e24),
    (0b00011001, .v3b_0), (0b00111001, .v9_7), (0b01011001, .e25), (0b00011010, .e26), (0b00011011, .m27), (0b00111011, .e27),
    (0b00011100, .m28), (0b00111100, .e28), (0b00011101, .m29), (0b00111101, .e29), (0b00011110, .m30), (0b00111110, .v3c_0),
    (0b01011110, .e30), (0b00011111, .v4_0), (0b00111111, .v1_2)] = true := by decide +kernel

/-- R111: the register addresses, one per row of the map (voice numbers spread). -/
theorem test_decode_registers : readsAs (.ra .read) [
    (0b0110000, .voll 3 .read), (0b1010001, .volr 5 .read), (0b0010010, .pitchl 1 .read), (0b1110011, .pitchh 7 .read),
    (0b0100100, .srcn 2 .read), (0b1100101, .adsr1 6 .read), (0b1000110, .adsr2 4 .read), (0b0000111, .gain 0 .read),
    (0b0111000, .envx 3 .read), (0b1011001, .outx 5 .read), (0b0011010, .unusedA 1 .read), (0b1111011, .unusedB 7 .read),
    (0b0101110, .unusedE 2 .read), (0b1101111, .fir 6 .read), (0b0001100, .mvoll .read), (0b0011100, .mvolr .read),
    (0b0101100, .evoll .read), (0b0111100, .evolr .read), (0b1001100, .kon .read), (0b1011100, .koff .read), (0b1101100, .flg .read),
    (0b1111100, .endx .read), (0b0001101, .efb .read), (0b0011101, .unused1D .read), (0b0101101, .pmon .read), (0b0111101, .non .read),
    (0b1001101, .eon .read), (0b1011101, .dir .read), (0b1101101, .esa .read), (0b1111101, .edl .read)] = true := by decide +kernel

/-- R127: the Host commands; the first five as X30.12 and R127's own examples have them. -/
theorem test_decode_host_commands :
    decode .hcs [0x57, 0x4C, 0x01] = .ok (.writeReg 0x4C 1, []) ∧ decode .hcs [0x52, 0x7C] = .ok (.readReg 0x7C, []) ∧
    decode .hcs [0x41, 0xFC, 0x87, 0x5A] = .ok (.aramWrite 0x87FC 0x5A, []) ∧
    decode .hcs [0x61, 0x08, 0x80] = .ok (.aramRead 0x8008, []) ∧ decode .hcs [0x4E, 0x80, 0x40, 0, 0] = .ok (.run 16512, []) ∧
    decode .hcs [0x5A, 0x4D] = .ok (.reset, [0x4D]) ∧ decode .hcs [0x4D, 0x81] = .ok (.muteVoices 0x81, []) := by decide +kernel

/-- R128, X30.13: a pseudo-command's bytes are those of its expansion. -/
theorem test_expand_dirEnt :
    ((expand (.dirEnt 2 1 0x400 0x400)).filterMap encode).flatMap Prod.snd =
      [0x41, 0x04, 0x02, 0x00, 0x41, 0x05, 0x02, 0x04, 0x41, 0x06, 0x02, 0x00, 0x41, 0x07, 0x02, 0x04] := by decide +kernel

/-- R128: the bytes of `INIT` are 388 (95_test_vectors.md, Part 3), beginning with `5A` and ending with `57 6C 20`. -/
theorem test_expand_init :
    let bytes := ((expand .init).filterMap encode).flatMap Prod.snd
    bytes.length = 388 ∧ bytes.take 4 = [0x5A, 0x57, 0x00, 0x00] ∧ bytes.drop 385 = [0x57, 0x6C, 0x20] := by decide +kernel

/-- R112 to R116, X30.3 to X30.7: the byte formats of the registers. -/
theorem test_decode_register_formats :
    readsAs .flg [(0b10100101, .flgFields true false true 5)] = true ∧
    readsAs (.adsr1 2) [(0b10001110, .adsr1Fields 2 true 0 14), (0b01111111, .adsr1Fields 2 false 7 15)] = true ∧
    readsAs (.adsr2 3) [(0b11011111, .adsr2Fields 3 6 31)] = true ∧
    readsAs (.gain 4) [(0b01111111, .gainDirect 4 0x7F), (0b10011111, .gainLinearDecrease 4 31),
      (0b10111111, .gainExponentialDecrease 4 31), (0b11000000, .gainLinearIncrease 4 0), (0b11100101, .gainTwoSlopeIncrease 4 5)] = true ∧
    readsAs (.pitchh 5) [(0b11010010, .pitchhFields 5 3 0x12)] = true := by decide +kernel

/-- R121, R122, X30.8, X30.9: a BRR header by its filter, its shift and its flags, and a data byte. -/
theorem test_decode_brr_formats :
    readsAs (.brrFilter 1) [(0b11000011, .brrFilter0 1 12 true true), (0b11000100, .brrFilter1 1 12 false false),
      (0b10001000, .brrFilter2 1 8 false false), (0b10001110, .brrFilter3 1 8 true false)] = true ∧
    readsAs (.brrShift 1) [(0b11000011, .brrShiftValid 1 12 0 true true), (0b11011000, .brrShiftInvalid 1 1 2 false false)] = true ∧
    readsAs (.brrEnd 1) [(0b10110001, .brrTerminator 1 11 0), (0b11000011, .brrEndLoop 1 12 0), (0b10100010, .brrNotEnd 1 10 0 true)] = true ∧
    readsAs (.brrData 1) [(0b10001111, .brrData 1 8 15)] = true := by decide +kernel

/-- R119, R123, R129, X30.10, X30.11: the formats of two words. -/
theorem test_decode_word_pairs :
    decode (.directoryEntry 6) [0x00, 0x10, 0x09, 0x10] = .ok (.directoryEntry 6 0x1000 0x1009, []) ∧
    decode .echoFrame [0xF0, 0x07, 0x10, 0xF8] = .ok (.echoFrame 0x07F0 0xF810, []) ∧
    decode .outputPair [0xE8, 0x03, 0x18, 0xFC] = .ok (.outputPair 1000 0xFC18, []) := by decide +kernel

/-- R127, R110: what the decoders reject. -/
theorem test_decode_rejects :
    decode .hcs [0x58] = .error .notACommand ∧ decode .hcs [0x57, 0x4C] = .error .truncated ∧ decode .ph [32] = .error .outOfRange ∧
    decode .uop [0b01000000] = .error .outOfRange ∧ decode (.ra .read) [0x80] = .error .outOfRange := by decide +kernel

/-- Words as the opcode table numbers them (entry 16): a phase, `W 4C,01` with its first byte highest, the address of FLG. -/
theorem test_table_words :
    decodeTableWord 5 0b11011 = some .ph27 ∧ decodeTableWord 24 0x574C01 = some (.writeReg 0x4C 1) ∧
    decodeTableWord 7 0b1101100 = some (.flg .read) := by decide +kernel

/-- The step after placing a table word runs the word's instruction. -/
theorem test_fetch_word :
    (match step (State.reset.withFetchWord 5 27) with | .next t => (t.dsp.phase, t.out) | _ => (0, [])) = (28, [⟨0, 0⟩]) ∧
    (match step (State.reset.withFetchWord 24 0x570C55) with | .next t => (t.dsp.reg 0x0C, t.hostBytes) | _ => (0, [])) = (0x55, []) := by
  decide +kernel

/-- R360, R409: with nothing pending from the Host the machine holds its state, from reset as at any other time. -/
theorem test_idle_step_holds_the_state : step State.reset = .next State.reset := rfl

/-- R360, R373: a row, a micro-op and a word of a data format are no operations of the Host; a Host command, an access to a register and a
pushed output pair are. -/
theorem test_host_operations :
    [Instr.ph27, .e27, .v3c_0, .flgFields true true true 0, .adsr1Fields 0 true 0 0, .brrData 0 0 0, .echoFrame 0 0].all
      (fun i => !hostOperation i) = true ∧
    [Instr.writeReg 0x4C 1, .run 1, .frames 1, .flg .read, .outputPair 0 0, .copyState .save, .copyState (.load State.reset.dsp)].all hostOperation = true := by decide

/-- The word of a data format is delivered as the Host's write of its byte to GAIN of voice 0 (entry 6). -/
theorem test_data_word_is_delivered_by_the_host :
    deliver (.gainDirect 3 0x12) 0x12 = ⟨.gain 0 (.write 0x12), rfl⟩ ∧ deliver (.flg .read) 0x6C = ⟨.flg .read, rfl⟩ := ⟨rfl, rfl⟩

/-! ### One step on a small state -/

/-- What an instruction leaves, when it goes on. -/
def after {α : Type} (i : Instr) (s : State) (f : State → α) : Option α :=
  match exec i s with
  | .next t => some (f t)
  | _ => none

/-- Whether a Host operation changes nothing and reports one code. -/
def Reports (code : FaultCode) (i : Instr) (s : State) : Prop := exec i s = .next { s with results := s.results ++ [.fault code] }

/-- A DSP with every register 0, as reset otherwise. -/
def dsp0 : Dsp := Dsp.reset (Vector.replicate 128 0) 0

/-- Registers set, in turn. -/
def withRegs (rs : List (RegAddr × Byte)) (d : Dsp) : Dsp := rs.foldl (fun d r => d.setReg r.1 r.2) d

/-- The reset state with a given DSP and ARAM. -/
def at0 (d : Dsp) (cells : List Host.Cell) : State := { State.reset with dsp := d, aram := memOfCells cells }

/-- The state of X20.5. -/
def x20_5 : State :=
  at0 (withRegs [(0x25, 0x8A), (0x22, 0x55)] { dsp0 with tDirAddr := 0xFFFD }) [(0xFFFD, 0x11), (0xFFFE, 0x22), (0xFFFF, 0x33), (0, 0x44)]

/-- R85, X20.1: a word across the top of ARAM. -/
theorem test_word_wraps : memReadWord (memOfCells [(0xFFFF, 0x34), (0, 0x12)]) 0xFFFF = 0x1234 := by decide +kernel

/-- X41.1. -/
theorem test_v1 : after .v1_3 (at0 (withRegs [(0x34, 7)] { dsp0 with tDir := 0xFF, tSrcn := 0xFF }) []) (fun t => (t.dsp.tDirAddr, t.dsp.tSrcn))
    = some (0x02FC, 7) := by decide +kernel

/-- X41.2: the loop word, its second byte at address 0. -/
theorem test_v2_loop : after .v2_2 x20_5 (fun t => (t.dsp.tBrrNextAddr, t.dsp.tAdsr0, t.dsp.tPitch)) = some (0x4433, 0x8A, 0x55) := by
  decide +kernel

/-- X20.5: the start word during a key-on sequence. -/
theorem test_v2_start : after .v2_2 { x20_5 with dsp := x20_5.dsp.setVoice 2 { Voice.reset with konDelay := 2 } } (fun t => t.dsp.tBrrNextAddr)
    = some 0x2211 := by decide +kernel

/-- X41.3. -/
theorem test_v3a : after .v3a_2 (at0 (withRegs [(0x23, 0xFF)] { dsp0 with tPitch := 0x55 }) []) (fun t => t.dsp.tPitch) = some 0x3F55 := by
  decide +kernel

/-- X20.4: the header at 0xFFF9, the byte at 0x0000. -/
theorem test_v3b : after .v3b_3 (at0 (dsp0.setVoice 3 { Voice.reset with brrAddr := 0xFFF9, brrOffset := 7 }) [(0xFFF9, 0xB3), (0, 0x12)])
    (fun t => (t.dsp.tBrrHeader, t.dsp.tBrrByte)) = some (0xB3, 0x12) := by decide +kernel

/-- A voice in Sustain at the top level, its ring full of 28672. -/
def loud : Voice := { Voice.reset with buf := Vector.replicate 12 28672, envMode := .sustain, env := 0x7FF }

/-- X42.25, X41.11, X41.9 with the candidate table U1 (R251): interpolation, envelope, ENVX. -/
theorem test_v3c_output : after .v3c_0 (at0 (dsp0.setVoice 0 loud) []) (fun t => (t.dsp.tOutput, (t.dsp.voice 0).tEnvxOut)) = some (28670, 0x7F) := by
  decide +kernel

/-- R207, the first sample of the sequence; X41.4's pitch is forced to 0 in it. -/
theorem test_v3c_key_on :
    after .v3c_0 (at0 ({ dsp0 with tBrrNextAddr := 0x300, tPitch := 0x1000, tBrrHeader := 0xC1, everyOtherSample := false }.setVoice 0
        { loud with konDelay := 5, envMode := .attack }) [])
      (fun t => ((t.dsp.voice 0).brrAddr, (t.dsp.voice 0).konDelay, (t.dsp.voice 0).env, (t.dsp.voice 0).envMode, t.dsp.tPitch, t.dsp.tOutput))
    = some (0x300, 4, 0, .attack, 0, 0) := by decide +kernel

/-- X41.4, X41.5, X41.6, X41.7: pitch modulation. -/
theorem test_pitch_modulation :
    [(0x1000, 0x4000), (0x1000, -0x7FF0), (0x3FFF, 32750), (0x1000, -2), (0x1000, 30)].map
      (fun x => (pitchMod 1 { dsp0 with tPmon := 2, tPitch := x.1, tOutput := x.2 }).tPitch) = [0x1800, 0, 0x7FEE, 0x0FFC, 0x1000] := by
  decide +kernel

/-- The state of X41.12. -/
def x41_12 : State :=
  at0 (withRegs [(0x30, 0x7F)] { dsp0 with tBrrHeader := 0xB3, tBrrByte := 0x12, tBrrNextAddr := 0x2000, tPitch := 0x0800, tOutput := 4094, tEon := 8, tMainOut := ⟨32000, 0⟩, tEchoOut := ⟨5, 0⟩ }
    |>.setVoice 3 { Voice.reset with brrAddr := 0xFFF9, brrOffset := 7, interpPos := 0x4123, bufPos := 8 })
    [(0xFFF9, 0xB3), (0, 0x12), (1, 0x34)]

/-- X41.12. -/
theorem test_v4_decode :
    after .v4_3 x41_12 (fun t => ((t.dsp.voice 3).buf.toList.drop 8, (t.dsp.voice 3).bufPos, (t.dsp.voice 3).brrAddr, (t.dsp.voice 3).brrOffset))
      = some ([2048, 4096, 6144, 8192], 0, 0x2000, 1) ∧
    after .v4_3 x41_12 (fun t => (t.dsp.tLooped, (t.dsp.voice 3).interpPos, t.dsp.tMainOut.l, t.dsp.tEchoOut.l))
      = some (8, 0x0923, 32767, 4067) := by decide +kernel

/-- X41.16: the next block across the top of ARAM, and the saturation of the position. -/
theorem test_v4_next_block :
    after .v4_3 (at0 ({ dsp0 with tBrrHeader := 0xB2, tPitch := 0x7FEE }.setVoice 3
        { Voice.reset with brrAddr := 0xFFFC, brrOffset := 7, interpPos := 0x7FFF }) [])
      (fun t => ((t.dsp.voice 3).brrAddr, (t.dsp.voice 3).brrOffset, t.dsp.tLooped, (t.dsp.voice 3).interpPos)) = some (5, 1, 0, 0x7FFF) := by
  decide +kernel

/-- X41.13. -/
theorem test_v5_mix :
    after .v5_3 (at0 (withRegs [(0x31, 0x80), (0x7C, 4)]
        { dsp0 with tOutput := 4094, tEon := 8, tLooped := 8, tMainOut := ⟨0, -32000⟩, tEchoOut := ⟨0, 5⟩ }) [])
      (fun t => (t.dsp.tMainOut.r, t.dsp.tEchoOut.r, t.dsp.endxBuf)) = some (-32768, -4089, 0x0C) := by decide +kernel

/-- X41.14. -/
theorem test_v5_key_on_clears :
    after .v5_3 (at0 (withRegs [(0x7C, 0x0C)] ({ dsp0 with tLooped := 8 }.setVoice 3 { Voice.reset with konDelay := 5 })) [])
      (fun t => t.dsp.endxBuf) = some 4 := by decide +kernel

/-- X41.18. -/
theorem test_v6 : [-2, 4094, -32752, 32750].map (fun x => after .v6_2 (at0 { dsp0 with tOutput := x } []) (fun t => t.dsp.outxBuf))
    = [some 0xFF, some 0x0F, some 0x80, some 0x7F] := by decide +kernel

/-- R218. -/
theorem test_v7 : after .v7_2 (at0 ({ dsp0 with endxBuf := 5 }.setVoice 2 { Voice.reset with tEnvxOut := 0x7F }) [])
    (fun t => (t.dsp.reg 0x7C, t.dsp.envxBuf)) = some (5, 0x7F) := by decide +kernel

/-- R219's example. -/
theorem test_v8 : after .v8_2 (at0 { dsp0 with outxBuf := 0x0F } []) (fun t => t.dsp.reg 0x29) = some 0x0F := by decide +kernel

/-- R220. -/
theorem test_v9 : after .v9_7 (at0 { dsp0 with envxBuf := 0x55 } []) (fun t => t.dsp.reg 0x78) = some 0x55 := by decide +kernel

/-- X42.1, X42.3, X42.4: filter 0, with a valid shift and an invalid one. -/
theorem test_brr_scale :
    [(0xA0, 0x77, 0x99), (0x00, 0x71, 0xF9), (0xC0, 0x78, 0x9F), (0xD0, 0x78, 0x8F)].map
      (fun x => (decodeFour x.1 x.2.1 x.2.2 0 (Vector.replicate 12 0)).toList.take 4)
    = [[7168, 7168, -7168, -7168], [6, 0, -2, -8], [28672, -32768, -28672, -4096], [0, -4096, -4096, -4096]] := by decide +kernel

/-- X42.6 to X42.9: the four filters. -/
theorem test_brr_filters :
    [0x80, 0x84, 0x88, 0x8C].map
      (fun h => (decodeFour h 0x12 0xEF 0 #v[0, 0, 0, 0, 0, 0, 0, 0, 0, 0, 2000, 8000]).toList.take 4)
    = [[256, 512, -512, -256], [7756, 7782, 6782, 6102], [13630, 18994, 22914, 25614], [13004, 17378, 20148, 21826]] := by decide +kernel

/-- X42.10 to X42.12: the clamp and the wrap. -/
theorem test_brr_wraps :
    [(0xC4, 0x70, 0, 32766), (0xC4, 0x80, 0, -32768), (0x08, 0, -32768, 32766)].map
      (fun x => (decodeFour x.1 x.2.1 0 0 #v[0, 0, 0, 0, 0, 0, 0, 0, 0, 0, x.2.2.1, x.2.2.2]).toList.take 4)
    = [[-6146, -5762, -5402, -5066], [2048, 1920, 1800, 1686], [-2, -30724, 6968, -23452]] := by decide +kernel

/-- X42.14 to X42.22: the interpolator with the candidate table U1, `buf[i] = 1000*(i+1)`. -/
theorem test_interpolate :
    [(0, 0x0000), (0, 0x0800), (0, 0x1000), (0, 0x3FF0), (0, 0x4000), (0, 0x7FFF), (8, 0x0000), (8, 0x1000), (8, 0x4000)].map
      (fun x => interpolate defaultParams { Voice.reset with
        buf := #v[1000, 2000, 3000, 4000, 5000, 6000, 7000, 8000, 9000, 10000, 11000, 12000], bufPos := x.1, interpPos := x.2 })
    = [2000, 2500, 3002, 6000, 6004, 10002, 10004, 11006, 2000] := by decide +kernel

/-- X42.23, X42.24, X42.26: the wrap after three taps, and the floors. -/
theorem test_interpolate_wraps :
    [32766, -32768, -2, 2].map (fun x => interpolate defaultParams { Voice.reset with buf := Vector.replicate 12 x }) = [-32756, 32752, -4, 0] := by
  decide +kernel

/-- One envelope run from a mode, a level and a hidden level, with ADSR1, ADSR2, GAIN and a counter. -/
def env1 (m : EnvMode) (e h : Int) (a1 a2 g : Byte) (c : Nat) : EnvMode × Int × Int :=
  let y := ({ Voice.reset with envMode := m, env := e, hiddenEnv := h } : Voice).envelopeRun defaultParams c a1 a2 g
  (y.envMode, y.env, y.hiddenEnv)

/-- X43.1, X43.2, X43.4 to X43.7, X43.11: ADSR mode and Release, the first call of each. -/
theorem test_envelope_adsr :
    [env1 .attack 0 0 0x8F 0xE0 0 30719, env1 .attack 0x400 0x400 0x8F 0xE0 0 30718, env1 .decay 0x7FF 0x800 0x8F 0xE0 0 30717,
     env1 .attack 0x20 0x20 0x8E 0 0 30717, env1 .attack 0x7DF 0 0x8E 0 0 30718, env1 .decay 0x7FF 0 0xFF 0xDF 0 5,
     env1 .decay 0x707 0 0xFF 0xDF 0 1, env1 .decay 0x7FF 0 0xFF 0xFF 0 0, env1 .sustain 1 0 0xFF 0xFF 0 7, env1 .release 5 0x123 0xFF 0xFF 0 7]
    = [(.attack, 0x400, 0x400), (.decay, 0x7FF, 0x800), (.sustain, 0x7FF, 0x7F7), (.attack, 0x20, 0x40), (.decay, 0x7FF, 0x7FF),
       (.decay, 0x7FF, 0x7F7), (.sustain, 0x707, 0x6FF), (.sustain, 0x7F7, 0x7F7), (.sustain, 0, 0), (.release, 0, 0x123)] := by decide +kernel

/-- X43.12 to X43.21: Gain mode, the first call of each. -/
theorem test_envelope_gain :
    [env1 .attack 0x123 0 0 0 0x7F 77, env1 .sustain 0x7FF 0 0 0 0 77, env1 .sustain 0x30 0 0 0 0x9F 1, env1 .sustain 0x7FF 0 0 0 0xBF 1,
     env1 .sustain 0x7D0 0 0 0 0xDF 1, env1 .sustain 0x5C0 0x5C0 0 0 0xFF 1, env1 .sustain 0x5F0 0x700 0 0 0xFF 1,
     env1 .attack 0x10 0 0 0 0x9F 1, env1 .decay 0x5FF 0 0 0 0xBF 1, env1 .sustain 0 (-0x20) 0 0 0xFF 1, env1 .sustain 0x100 0 0 0 0xC0 1]
    = [(.attack, 0x7F0, 0x7F0), (.sustain, 0, 0), (.sustain, 0x10, 0x10), (.sustain, 0x7F7, 0x7F7), (.sustain, 0x7F0, 0x7F0),
       (.sustain, 0x5E0, 0x5E0), (.sustain, 0x5F8, 0x5F8), (.decay, 0, -0x10), (.sustain, 0x5F9, 0x5F9), (.sustain, 0x20, 0x20),
       (.sustain, 0x100, 0x120)] := by decide +kernel

/-- X40.11 to X40.19: the fires of the rates, at the counters the vectors list and at none next to them. -/
theorem test_rates :
    [(30719, 31), (30718, 30), (30715, 29), (30716, 28), (30714, 27), (29696, 4), (28904, 3), (28144, 2), (26624, 1)].all
      (fun x => fires x.1 x.2) = true ∧
    [(30719, 30), (30714, 29), (30715, 28), (30715, 27), (29695, 4), (28905, 3), (28145, 2), (26625, 1), (0, 0)].all
      (fun x => !fires x.1 x.2) = true := by decide +kernel

/-! ### The global and echo micro-ops -/

/-- R164's example; R165. -/
theorem test_m27_m28 : after .m27 (at0 (withRegs [(0x2D, 0xFF)] dsp0) []) (fun t => t.dsp.tPmon) = some 0xFE ∧
    after .m28 (at0 (withRegs [(0x3D, 1), (0x4D, 2), (0x5D, 3)] dsp0) []) (fun t => (t.dsp.tNon, t.dsp.tEon, t.dsp.tDir)) = some (1, 2, 3) := by
  decide +kernel

/-- R166's example. -/
theorem test_m29 : after .m29 (at0 { dsp0 with kon := 1, newKon := 3, everyOtherSample := false } []) (fun t => (t.dsp.everyOtherSample, t.dsp.newKon))
    = some (true, 2) := by decide +kernel

/-- X40.21, X40.4, X44.1: the counter's wrap and the first step of the noise register. -/
theorem test_m30 : after .m30 (at0 (withRegs [(0x5C, 9)] { dsp0 with newKon := 3 }) [])
    (fun t => (t.dsp.counter, t.dsp.noise, t.dsp.kon, t.dsp.tKoff)) = some (30719, 0x6000, 3, 9) := by decide +kernel

/-- X44.3: with P4 the noise steps only when the new counter fires at the FLG rate: not at 30719 with rate 30. -/
theorem test_m30_gated : after .m30 { at0 (withRegs [(0x6C, 0x3E)] dsp0) [] with params := { defaultParams with noiseGated := true } }
    (fun t => (t.dsp.counter, t.dsp.noise)) = some (30719, 0x4000) := by decide +kernel

/-- X20.3, X45.7: the frame's address wraps; the left word `01 80` enters as -16384. -/
theorem test_e22 : after .e22 (at0 { dsp0 with tEsa := 0xFF, echoOffset := 0x104 } [(4, 0x01), (5, 0x80)])
    (fun t => (t.dsp.tEchoPtr, t.dsp.echoHistPos, t.dsp.echoHist[1].l)) = some (4, 1, -16384) := by decide +kernel

/-- X45.3's history and coefficients at `pos = 7`: taps 1 and 2 are 6 and 14 (left), -7 and -15 (right); the right word `10 F8` enters
as -1016 (X45.7). -/
def x45_3 : Dsp :=
  withRegs [(0x0F, 1), (0x1F, 2), (0x2F, 3), (0x3F, 4), (0x4F, 5), (0x5F, 6), (0x6F, 7), (0x7F, 8)]
    { dsp0 with
      echoHist := #v[⟨100, -100⟩, ⟨200, -200⟩, ⟨300, -300⟩, ⟨400, -400⟩, ⟨500, -500⟩, ⟨600, -600⟩, ⟨700, -700⟩, ⟨800, -800⟩]
      echoHistPos := 7 }

/-- X45.3, taps 1 and 2, and X45.7. -/
theorem test_e23 : after .e23 (at0 { x45_3 with tEchoIn := ⟨1, -2⟩, tEchoPtr := 0x10 } [(0x12, 0x10), (0x13, 0xF8)])
    (fun t => (t.dsp.tEchoIn, t.dsp.echoHist[7])) = some (⟨21, -24⟩, ⟨800, -1016⟩) := by decide +kernel

/-- X45.3, taps 3, 4, 5: 25, 39, 56 and -25, -40, -57. -/
theorem test_e24 : after .e24 (at0 { x45_3 with tEchoIn := ⟨21, -24⟩ } []) (fun t => t.dsp.tEchoIn) = some ⟨141, -146⟩ := by decide +kernel

/-- X45.3: 317 is made even, -323 too. X45.1 and X45.2: six taps of 32510 and -32512 summed; the seven-tap wrap. -/
theorem test_e25 :
    after .e25 (at0 { x45_3 with tEchoIn := ⟨141, -146⟩ } []) (fun t => t.dsp.tEchoIn) = some ⟨316, -324⟩ ∧
    after .e25 (at0 (withRegs [(0x6F, 0x7F), (0x7F, 0x7F)]
        { dsp0 with echoHist := Vector.replicate 8 ⟨16383, -16384⟩, tEchoIn := ⟨195060, -195072⟩ }) []) (fun t => t.dsp.tEchoIn) = some ⟨32766, -32768⟩ ∧
    after .e25 (at0 (withRegs [(0x6F, 0x7F)]
        { dsp0 with echoHist := Vector.replicate 8 ⟨16383, -16384⟩, tEchoIn := ⟨195060, -195072⟩ }) []) (fun t => t.dsp.tEchoIn) = some ⟨30962, -30976⟩ := by
  decide +kernel

/-- X45.8, X45.9: the left output with the clamp, the feedback of both channels. -/
theorem test_e26 :
    after .e26 (at0 (withRegs [(0x0C, 0x80), (0x0D, 0x40)] { dsp0 with tMainOut := ⟨-32768, 1000⟩, tEchoIn := ⟨4064, -4064⟩ }) [])
      (fun t => (t.dsp.tMainOut, t.dsp.tEchoOut)) = some (⟨32767, 1000⟩, ⟨2032, -2032⟩) := by decide +kernel

/-- X45.8: the left product under P12 = true. -/
theorem test_e26_wrap :
    after .e26 { at0 (withRegs [(0x0C, 0x80)] { dsp0 with tMainOut := ⟨-32768, 1000⟩ }) [] with params := { defaultParams with volumeProductWrap := true } }
      (fun t => t.dsp.tMainOut) = some ⟨-32768, 1000⟩ := by decide +kernel

/-- R309's example. -/
theorem test_e27 : after .e27 (at0 (withRegs [(0x1C, 0x7F), (0x6C, 0x20)] { dsp0 with tMainOut := ⟨5024, 10⟩ }) [])
    (fun t => (t.out, t.dsp.tMainOut, t.dsp.sampleCount)) = some ([⟨5024, 9⟩], ⟨0, 0⟩, 1) := by decide +kernel

/-- X45.13. -/
theorem test_e27_mute : after .e27 (at0 (withRegs [(0x1C, 0x7F), (0x6C, 0x60)] { dsp0 with tMainOut := ⟨5024, 10⟩ }) [])
    (fun t => (t.out, t.dsp.tMainOut, t.dsp.sampleCount)) = some ([⟨0, 0⟩], ⟨0, 0⟩, 1) := by decide +kernel

/-- R310. -/
theorem test_e28 : after .e28 (at0 (withRegs [(0x6C, 0x20)] dsp0) []) (fun t => t.dsp.tEchoEnabled) = some 0x20 := by decide +kernel

/-- X45.11, R312's example: the ring wraps without reloading EDL; the left word is stored. -/
theorem test_e29 :
    after .e29 (at0 (withRegs [(0x7D, 3), (0x6D, 0x80)] { dsp0 with echoOffset := 0x7FC, echoLength := 0x800, tEchoPtr := 0x8004, tEchoOut := ⟨0x400, 7⟩ }) [])
      (fun t => (t.dsp.echoOffset, t.dsp.echoLength, t.dsp.tEsa, t.aram)) = some (0, 0x800, 0x80, [(0x8005, 4)]) := by
  decide +kernel

/-- PROG-B's frame: the right word -2032 is `10 F8`; with the latched FLG bit 5 nothing is stored. -/
theorem test_e30 :
    after .e30 (at0 { dsp0 with tEchoPtr := 0x8008, tEchoOut := ⟨7, -2032⟩ } []) (fun t => (t.aram, t.dsp.tEchoOut))
      = some ([(0x800A, 0x10), (0x800B, 0xF8)], ⟨7, 0⟩) ∧
    after .e30 (at0 { dsp0 with tEchoPtr := 0x8008, tEchoOut := ⟨7, -2032⟩, tEchoEnabled := 0x20 } []) (fun t => (t.aram, t.dsp.tEchoOut))
      = some ([], ⟨7, 0⟩) := by decide +kernel

/-! ### Ticks and the Host's operations -/

/-- X40.2 to X40.5: a tick is one row. -/
theorem test_run : [27, 28, 31, 32].map (fun n => after (.run n) State.reset (fun t => (t.dsp.phase, t.dsp.sampleCount, t.dsp.counter, t.dsp.noise)))
    = [some (27, 0, 0, 0x4000), some (28, 1, 0, 0x4000), some (31, 1, 30719, 0x6000), some (0, 1, 30719, 0x6000)] := by decide +kernel

/-- X40.9. -/
theorem test_run_negative : Reports .invalidTicks (.run (-1)) State.reset := rfl

/-- X40.10: row 2 runs V7(0), V4(1), V1(3); row 30 runs M30 before V3c(0), so a key-on is taken in the same tick. -/
theorem test_ph2 : after .ph2 (at0 (withRegs [(0x34, 7), (0x10, 0x7F)] { dsp0 with phase := 2, endxBuf := 9, tOutput := 1008 }) [])
    (fun t => (t.dsp.reg 0x7C, t.dsp.tMainOut.l, t.dsp.tSrcn, t.dsp.phase)) = some (9, 1000, 7, 3) := by decide +kernel

/-- X40.10. -/
theorem test_ph30 : after .ph30 (at0 { dsp0 with phase := 30, newKon := 1 } []) (fun t => ((t.dsp.voice 0).konDelay, t.dsp.phase)) = some (5, 31) := by
  decide +kernel

/-- X47.1 to X47.3. -/
theorem test_writeReg :
    after (.writeReg 0x7C 0xFF) (at0 (withRegs [(0x7C, 5)] { dsp0 with endxBuf := 5 }) []) (fun t => (t.dsp.reg 0x7C, t.dsp.endxBuf)) = some (0, 0) ∧
    after (.writeReg 0x4C 0x81) (at0 dsp0 []) (fun t => (t.dsp.newKon, t.dsp.kon, t.dsp.reg 0x4C)) = some (0x81, 0, 0x81) ∧
    after (.writeReg 0x28 0x55) (at0 dsp0 []) (fun t => (t.dsp.envxBuf, t.dsp.reg 0x28, t.dsp.outxBuf)) = some (0x55, 0x55, 0) := by decide +kernel

/-- X47.8. -/
theorem test_register_faults :
    Reports .invalidRegisterAccess (.writeReg 0x80 0) State.reset ∧ Reports .invalidRegisterAccess (.readReg 0x80) State.reset ∧
    Reports .invalidRegisterAccess (.writeReg 0 256) State.reset ∧ Reports .invalidRegisterAccess (.readReg (-1)) State.reset :=
  ⟨rfl, rfl, rfl, rfl⟩

/-- X47.7, in one step each: `INIT` leaves FLG at 0x20 and KON at 0. -/
theorem test_init : after .init State.reset (fun t => (t.dsp.reg 0x6C, t.dsp.reg 0x4C, t.dsp.newKon)) = some (0x20, 0, 0) := by decide +kernel

/-- R111, R362, R363: a register row is the access to it. -/
theorem test_register_rows :
    after (.fir 7 (.write 0x7F)) (at0 dsp0 []) (fun t => t.dsp.reg 0x7F) = some 0x7F ∧
    after (.outx 3 .read) (at0 (withRegs [(0x39, 0x66)] dsp0) []) (fun t => t.results) = some [.byte 0x66] := by decide +kernel

/-- X47.9. -/
theorem test_construct_faults :
    Reports .invalidAram (.construct (some ⟨32768, []⟩)) State.reset ∧ Reports .invalidAram (.construct none) State.reset := ⟨rfl, rfl⟩

/-- R361: the bytes are bound, the mask cleared, the DSP reset. -/
theorem test_construct :
    after (.construct (some ⟨0x10000, [(5, 7)]⟩)) (at0 { dsp0 with muteMask := 3, phase := 9 } [(1, 1)])
      (fun t => (t.aram, t.dsp.muteMask, t.dsp.phase)) = some ([(5, 7)], 0, 0) := by decide +kernel

/-- R367: a stored zero leaves no cell. -/
theorem test_aram : after (.aramWrite 0x8008 0) (at0 dsp0 [(0x8008, 9), (0x8009, 1)]) (fun t => t.aram) = some [(0x8009, 1)] ∧
    after (.aramRead 0x8009) (at0 dsp0 [(0x8009, 1)]) (fun t => t.results) = some [.byte 1] := by decide +kernel

/-- R368, and X47.10: a muted voice's V5 adds nothing. -/
theorem test_mute : after (.muteVoices 0x181) (at0 dsp0 []) (fun t => t.dsp.muteMask) = some 0x81 ∧
    after .v5_0 (at0 (withRegs [(0x01, 0x40)] { dsp0 with muteMask := 1, tOutput := 28670 }) []) (fun t => t.dsp.tMainOut) = some ⟨0, 0⟩ := by
  decide +kernel

/-- R128, X30.7: `PITCH`, low byte first. -/
theorem test_pitch : after (.pitch 1 0x1234) (at0 dsp0 []) (fun t => (t.dsp.reg 0x12, t.dsp.reg 0x13)) = some (0x34, 0x12) := by decide +kernel

/-- R128: `DIRENT` and `BRR` store their bytes. -/
theorem test_stores :
    after (.dirEnt 2 1 0x400 0x500) (at0 dsp0 []) (fun t => t.aram) = some [(0x205, 4), (0x207, 5)] ∧
    after (.brrBlock 0xFFFF #v[0xC3, 1, 2, 3, 4, 5, 6, 7, 8]) (at0 dsp0 []) (fun t => (memRead t.aram 0xFFFF, memRead t.aram 7)) = some (0xC3, 8) := by
  decide +kernel

/-- R128: the key commands. -/
theorem test_keys : after (.keyOn 1) (at0 dsp0 []) (fun t => t.dsp.newKon) = some 1 ∧ after (.keyOff 2) (at0 dsp0 []) (fun t => t.dsp.reg 0x5C) = some 2 := by
  decide +kernel

/-- R370, T2: a save returns what was there, and a load gives back an earlier save after a later one. -/
theorem test_copyState :
    after (.copyState .save) (at0 { dsp0 with counter := 5 } []) (fun t => t.results) = some [.stream { dsp0 with counter := 5 }] ∧
    after (.copyState (.load { dsp0 with counter := 5 }))
        { State.reset with results := [.stream { dsp0 with counter := 5 }, .stream { dsp0 with counter := 9 }] } (fun t => t.dsp.counter) = some 5 := by
  decide +kernel

/-! ### The resampler -/

/-- The bytes of a frame F(l, r) (R129). -/
def frameBytes (l r : Int) : List Byte := wordPairBytes (BitVec.ofInt 16 l) (BitVec.ofInt 16 r)

/-- The reset state with a resampler of `cap` bytes at `ratio` that holds `frames`. -/
def withFrames (cap : Nat) (ratio : Rat) (frames : List (Int × Int)) : State :=
  let bytes := frames.flatMap (fun f => frameBytes f.1 f.2)
  { State.reset with resampler :=
    { Resampler.fresh cap with buffer := bytes ++ List.replicate (cap - bytes.length) 0, size := bytes.length, step := ratio } }

/-- X46.1: `Push` stores all or nothing. -/
theorem test_push :
    after (.push (List.replicate 17 1)) (withFrames 16 1 []) (fun t => (t.results, t.resampler.size)) = some ([.accepted false], 0) ∧
    after (.push (List.replicate 16 1)) (withFrames 16 1 []) (fun t => (t.results, t.resampler.size)) = some ([.accepted true], 16) := by
  decide +kernel

/-- X46.2. -/
theorem test_read :
    after (.readSamples 100) (withFrames 64 1 [(1000, -1000), (2000, -2000), (3000, -3000), (4000, -4000)])
      (fun t => (t.results, t.resampler.size, t.resampler.start, t.resampler.left, t.resampler.frac))
    = some ([.samples [0, 0, 0, 0, 1000, -1000, 2000, -2000]], 0, 16, ⟨1000, 2000, 3000, 4000⟩, 1) := by decide +kernel

/-- X46.4: the ratio 1/2. -/
theorem test_read_half :
    after (.readSamples 100) (withFrames 64 (1 / 2) [(1000, -1000), (2000, -2000), (3000, -3000), (4000, -4000)])
      (fun t => (t.results, t.resampler.frac))
    = some ([.samples [0, 0, -62, 62, 0, 0, 437, -437, 1000, -1000, 1500, -1500, 2000, -2000]], 1 / 2) := by decide +kernel

/-- X46.10, X46.11: Hermite. -/
theorem test_hermite :
    [hermite (1 / 4) ⟨0, 1000, 2000, 3000⟩, hermite (1 / 2) ⟨0, 0, 32767, 32767⟩, hermite (1 / 2) ⟨0, -1, -2, -2⟩,
     hermite (1 / 3) ⟨100, -200, 300, -400⟩, hermite 0 ⟨1, 2, 3, 4⟩, hermite 1 ⟨1, 2, 3, 4⟩,
     hermite (1 / 2) ⟨-32768, 32767, 32767, -32768⟩, hermite (1 / 2) ⟨32767, -32768, -32768, 32767⟩]
    = [1250, 16383, -1, -48, 2, 3, 40958, -40959] := by decide +kernel

/-- X46.2, X46.4 to X46.6, X46.12: `Available`; R336. -/
theorem test_queries :
    [withFrames 64 1 (List.replicate 4 (0, 0)), withFrames 64 (1 / 2) (List.replicate 4 (0, 0)), withFrames 64 2 (List.replicate 6 (0, 0)),
     withFrames 64 (3 / 2) (List.replicate 6 (0, 0)), withFrames 0 1 []].map (fun s => after .available s (fun t => t.results))
    = [some [.count 6], some [.count 12], some [.count 4], some [.count 6], some [.count 0]] ∧
    after .getTimeRatio (withFrames 0 (3 / 2) []) (fun t => t.results) = some [.ratio (3 / 2)] := by decide +kernel

/-- X46.13: `SetTimeRatio` and `Resize`. -/
theorem test_ratio :
    after (.setTimeRatio 3) (withFrames 16 1 [(1, 2)]) (fun t => (t.resampler.size, t.resampler.frac, t.resampler.step)) = some (0, 1, 3) ∧
    after (.resize 8) (withFrames 16 3 []) (fun t => (t.resampler.buffer.length, t.resampler.step)) = some (8, 3) := by decide +kernel

/-- X46.14. -/
theorem test_resampler_faults :
    Reports .invalidTimeRatio (.setTimeRatio 0) State.reset ∧ Reports .negativeBufferSize (.resize (-1)) State.reset ∧
    Reports .negativeBufferSize (.resamplerConstruct (-1)) State.reset := ⟨rfl, rfl, rfl⟩

/-- X46.3 for capacity 18: `CacheSilence` fills with zeros, `Clear` empties, construction starts afresh. -/
theorem test_silence :
    after .cacheSilence (withFrames 18 1 [(5, 5)]) (fun t => (t.resampler.size, t.resampler.buffer)) = some (18, List.replicate 18 0) ∧
    after .clear (withFrames 18 2 [(5, 5)]) (fun t => (t.resampler.size, t.resampler.step)) = some (0, 2) ∧
    after (.resamplerConstruct 16) State.reset (fun t => (t.resampler.buffer.length, t.resampler.step)) = some (16, 1) := by decide +kernel

/-! ### The byte formats as instructions (entry 14) -/

/-- X30.7, X30.10, X30.11: PITCHH drops its two top bits; a directory entry gives its start or loop word; an echo frame enters halved. -/
theorem test_format_words :
    after (.pitchhFields 1 3 0x3F) (at0 { dsp0 with tPitch := 0x55 } []) (fun t => (t.dsp.tPitch, t.dsp.reg 0x13)) = some (0x3F55, 0xFF) ∧
    after (.directoryEntry 0 0x1000 0x1009) (at0 dsp0 []) (fun t => t.dsp.tBrrNextAddr) = some 0x1009 ∧
    after (.echoFrame 0x07F0 0xF810) (at0 dsp0 []) (fun t => t.dsp.echoHist[0]) = some ⟨1016, -1016⟩ ∧
    after (.flgFields true false true 5) (at0 dsp0 []) (fun t => t.dsp.reg 0x6C) = some 0xA5 ∧
    after (.outputPair 1000 0xFC18) (withFrames 4 1 []) (fun t => t.resampler.buffer) = some (frameBytes 1000 (-1000)) := by decide +kernel

/-- X43.1, X43.16: an ADSR1 byte and a GAIN byte run the envelope once. -/
theorem test_format_envelope :
    after (.adsr1Fields 0 true 0 15) (at0 ({ dsp0 with counter := 30719 }.setVoice 0 { Voice.reset with envMode := .attack }) [])
      (fun t => (t.dsp.voice 0).env) = some 0x400 ∧
    after (.gainTwoSlopeIncrease 0 31) (at0 (dsp0.setVoice 0 { Voice.reset with envMode := .sustain, env := 0x5F0, hiddenEnv := 0x700 }) [])
      (fun t => ((t.dsp.voice 0).env, t.dsp.reg 7)) = some (0x5F8, 0xFF) := by decide +kernel

/-- X42.4, X41.15, R209: BRR headers by their shift, end and loop flags. -/
theorem test_format_brr :
    after (.brrShiftInvalid 0 1 0 false false) (at0 ({ dsp0 with tBrrByte := 0x78 }.setVoice 0 { Voice.reset with brrAddr := 0 }) [(2, 0x8F)])
      (fun t => ((t.dsp.voice 0).buf.toList.take 4, (t.dsp.voice 0).bufPos)) = some ([0, -4096, -4096, -4096], 4) ∧
    after (.brrEndLoop 3 11 0) (at0 ({ dsp0 with tBrrNextAddr := 0x2000 }.setVoice 3 { Voice.reset with brrAddr := 0x1000, brrOffset := 7 }) [])
      (fun t => ((t.dsp.voice 3).brrAddr, t.dsp.tLooped)) = some (0x2000, 8) ∧
    after (.brrTerminator 0 11 0) (at0 (dsp0.setVoice 0 loud) []) (fun t => ((t.dsp.voice 0).env, (t.dsp.voice 0).envMode)) = some (0, .release) := by
  decide +kernel

/-! ### Witnesses: for each statement that has hypotheses, a concrete state and operands that meet them, at the ends of each clause -/

/-- A state in the middle of a sample period, with ARAM listed, that meets the invariant. -/
def busy : State :=
  at0 ({ dsp0 with phase := 9, counter := 30719, echoOffset := 0x7FC, echoLength := 0x800, tOutput := -32768 }.setVoice 7
    { loud with bufPos := 8, interpPos := 0x7FFF, brrOffset := 7, konDelay := 5 }) [(0xFFFF, 1), (0, 2)]

/-- The DSP's part of the invariant there. -/
theorem witness_dsp : busy.dsp.Wf := by decide +kernel

/-- The invariant there. -/
theorem witness_inv : busy.Inv := ⟨by decide +kernel, witness_dsp, by decide +kernel, by decide +kernel⟩

theorem witness_DecodeOfEncode :
    wellFormed (.writeReg 255 0) = true ∧ encode (.writeReg 255 0) = some (.hcs, [0x57, 0xFF, 0]) ∧
    wellFormed (.run 4294967295) = true ∧ encode (.run 4294967295) = some (.hcs, [0x4E, 0xFF, 0xFF, 0xFF, 0xFF]) := by decide +kernel

theorem witness_EncodeOfDecode : decode .hcs [0x4E, 0xFF, 0xFF, 0xFF, 0xFF, 0x5A] = .ok (.run 4294967295, [0x5A]) := by decide +kernel

theorem witness_WordsRejected :
    ((0x57, 2) ∈ ([(0x57, 2), (0x52, 1), (0x41, 3), (0x61, 2), (0x4E, 4), (0x4D, 1)] : List (Byte × Nat)) ∧ ([0x4C] : List Byte).length < 2) ∧
    (0x58 : Byte) ∉ ([0x57, 0x52, 0x41, 0x61, 0x4E, 0x5A, 0x4D] : List Byte) ∧ 32 ≤ (32 : Byte).toNat ∧ 128 ≤ (0x80 : Byte).toNat := by
  decide +kernel

/-- One state or word for each case. -/
theorem witness_StepRunsTheDecodedInstruction :
    ({ State.reset with issued := [⟨.run 1, rfl⟩] } : State).issued = ⟨.run 1, rfl⟩ :: [] ∧
    (({ State.reset with hostBytes := [0x5A, 0x4D, 1] } : State).issued = [] ∧ ({ State.reset with hostBytes := [0x5A, 0x4D, 1] } : State).hostBytes ≠ [] ∧
      decodeStream [0x5A, 0x4D, 1] = .ok [.reset, .muteVoices 1] ∧ decode .hcs [0x5A, 0x4D, 1] = .ok (.reset, [0x4D, 1])) ∧
    (busy.issued = [] ∧ busy.hostBytes = []) ∧ decode .ph [BitVec.ofNat 8 busy.dsp.phase.val] = .ok (.ph9, []) ∧
    (decode (.ra .read) [0x6C] = .ok (.flg .read, []) ∧ hostOperation (.flg .read) = true) := by
  decide +kernel

theorem witness_MalformedStreamRefused :
    ({ State.reset with hostBytes := [0x5A, 0x58] } : State).issued = [] ∧ decodeStream [0x5A, 0x58] = .error .notACommand := by decide +kernel

/-- The reason of a refusal. -/
def refusal (s : State) : Option Refusal :=
  match step s with
  | .refused r => some r
  | _ => none

/-- Each of the two refusals happens. -/
theorem witness_StepStopsOnlyAsNamed :
    refusal { State.reset with hostBytes := [0x5A, 0x58] } = some .malformedHostStream ∧
    refusal { State.reset with issued := [⟨.copyState (.load { dsp0 with counter := 30720 }), rfl⟩] } = some .foreignStateBytes := by
  decide +kernel

theorem witness_RunIsItsTicks : (-1 : Int) < 0 := by decide

theorem witness_FramesEmitOnePairEach : busy.Inv := witness_inv

theorem witness_PairEmittedAtPhase27 : State.reset.dsp.phase = 0 := rfl

/-- The first byte after the frame, and the last before it, and a row that stores nothing. -/
theorem witness_TickWritesOnlyTheEchoFrame :
    busy.aram.Wf ∧ 4 ≤ ((4 : Addr) - busy.dsp.tEchoPtr).toNat ∧ 4 ≤ ((0xFFFF : Addr) - busy.dsp.tEchoPtr).toNat ∧
    (28 : Fin 32) ≠ 29 ∧ (28 : Fin 32) ≠ 30 := by decide +kernel

/-- Latch sample or not, counter 0 or not, gated or not. -/
theorem witness_M30LatchesCountsAndSteps :
    (dsp0.everyOtherSample = true ∧ dsp0.counter = 0) ∧
    ({ dsp0 with everyOtherSample := false } : Dsp).everyOtherSample = false ∧ busy.dsp.counter ≠ 0 ∧
    readCounter 30719 (flgNoiseRate 0x3E) ≠ 0 ∧ readCounter 30718 (flgNoiseRate 0x3E) = 0 := by decide +kernel

theorem witness_RateCounterFires : 30719 < 30720 ∧ (1 : Fin 32) ≠ 0 ∧ (31 : Fin 32) ≠ 0 ∧ 2047 < ratePeriod[(1 : Fin 32)] := by decide +kernel

/-- Both sides of the choice of word. -/
theorem witness_V2ReadsTheDirectory :
    (0xFFFF : Addr) = (if (x20_5.dsp.voice 2).konDelay = 0 then x20_5.dsp.tDirAddr + 2 else x20_5.dsp.tDirAddr) ∧
    (0 : Addr) = (if (busy.dsp.voice 7).konDelay = 0 then busy.dsp.tDirAddr + 2 else busy.dsp.tDirAddr) := by decide +kernel

theorem witness_V3cFrame : (1 : VoiceId) ≠ 7 ∧ (busy.dsp.voice 1).konDelay ≠ 5 := by decide +kernel

theorem witness_V3cKeyOnSequence :
    (busy.dsp.Wf ∧ (busy.dsp.voice 7).konDelay ≠ 0 ∧ (busy.dsp.voice 7).konDelay = 5) ∧
    (dsp0.setVoice 0 { Voice.reset with konDelay := 1 }).Wf ∧ ((dsp0.setVoice 0 { Voice.reset with konDelay := 1 }).voice 0).konDelay ≠ 0 :=
  ⟨⟨witness_dsp, by decide +kernel, by decide +kernel⟩, by decide +kernel, by decide +kernel⟩

/-- At the last position: offset 255, base 7 + 8. -/
theorem witness_V3cOutput : ∃ (off : Fin 256) (base : Nat) (tap : Fin 512 → Nat → Int),
    let x : Voice := { loud with bufPos := 8, interpPos := 0x7FFF }
    x.konDelay = 0 ∧ off.val = (x.interpPos / 0x10 % 0x100).toNat ∧ base = (x.interpPos / 0x1000).toNat + x.bufPos ∧
    ∀ i j, tap i j = (defaultParams.gauss[i].toNat : Int) * x.buf[ringIndex (base + j)] / 0x800 :=
  ⟨255, 15, fun i j => (defaultParams.gauss[i].toNat : Int) * (Vector.replicate 12 28672)[ringIndex (15 + j)] / 0x800, by
    exact ⟨rfl, by decide, by decide, fun _ _ => rfl⟩⟩

/-- The count after the key latch is 5, 4 and 0 in turn; and each premise of an envelope run is met: Release, the three modes of ADSR,
the five patterns of GAIN. -/
theorem witness_V3cKeysAndEnvelope :
    (if (({ dsp0 with kon := 1 } : Dsp).everyOtherSample && (1 : Byte).getLsbD 0) then 5 else (busy.dsp.voice 7).konDelay - 1) ≠ 0 ∧
    (if (busy.dsp.everyOtherSample && busy.dsp.kon.getLsbD 7) then 5 else (busy.dsp.voice 7).konDelay - 1) = 4 ∧
    (if (dsp0.everyOtherSample && dsp0.kon.getLsbD 0) then 5 else (dsp0.voice 0).konDelay - 1) = 0 ∧
    Voice.reset.envMode = .release ∧ loud.envMode ≠ .release ∧ 128 ≤ (0x80 : Byte).toNat ∧ (0x7F : Byte).toNat < 128 ∧
    [(0x80 : Byte), 0xA0, 0xC0, 0xE0].map (fun g => g.toNat / 32) = [4, 5, 6, 7] := by decide +kernel

/-- Just below and just at the position that decodes, in and at the end of a block, with and without the end flag. -/
theorem witness_V4DecodesAdvancesAndMixes :
    ({ Voice.reset with interpPos := 0x3FFF } : Voice).interpPos < 0x4000 ∧ 0x4000 ≤ ({ Voice.reset with interpPos := 0x4000 } : Voice).interpPos ∧
    Voice.reset.brrOffset + 2 < 9 ∧ 9 ≤ (busy.dsp.voice 7).brrOffset + 2 ∧ x41_12.dsp.tBrrHeader.getLsbD 0 = true := by decide +kernel

theorem witness_EchoReadsAndSums : ∃ tap : Dsp → Nat → Chan → Int, ∀ (d : Dsp) (i : Nat) (ch : Chan), tap d i ch =
    (d.echoHist[d.echoHistPos + Fin.ofNat 8 (i + 1)].get ch) * sext8 (d.reg (vreg (Fin.ofNat 8 i) 15)) / 0x40 := ⟨_, fun _ _ _ => rfl⟩

theorem witness_E25WrapsThenClamps : ∃ tap : Nat → Chan → Int, ∀ (i : Nat) (ch : Chan), tap i ch =
    (x45_3.echoHist[x45_3.echoHistPos + Fin.ofNat 8 (i + 1)].get ch) * sext8 (x45_3.reg (vreg (Fin.ofNat 8 i) 15)) / 0x40 :=
  ⟨_, fun _ _ => rfl⟩

/-- The premise of the statements about E26 and E27. -/
theorem witness_E26OutputsAndFeedsBack : ∃ vol : Int → Int, ∀ x, vol x = if defaultParams.volumeProductWrap then sext16 x else clamp16 x :=
  ⟨_, fun _ => rfl⟩

theorem witness_E28AndE29Ring : ∃ len : Nat, len = (if busy.dsp.echoOffset = 0 then (busy.dsp.reg 0x7D).toNat % 16 * 0x800 else busy.dsp.echoLength) :=
  ⟨_, rfl⟩

theorem witness_EchoWritesTheirWord :
    busy.aram.Wf ∧ ({ dsp0 with tEchoEnabled := 0x20 } : Dsp).tEchoEnabled.getLsbD 5 = true ∧ busy.dsp.tEchoEnabled.getLsbD 5 = false := by
  decide +kernel

/-- Both sides of the range check, at its ends. -/
theorem witness_WriteRegStores :
    ((0 : Int) ≤ 127 ∧ (127 : Int) < 128 ∧ (0 : Int) ≤ 255 ∧ (255 : Int) < 256) ∧ ¬ ((0 : Int) ≤ 128 ∧ (128 : Int) < 128) ∧
    ((127 : RegAddr).val : Int) = 127 ∧ ((0x7C : RegAddr).val : Int) = 0x7C := by decide

theorem witness_ReadRegReports : ((127 : RegAddr).val : Int) = 127 ∧ ((-1 : Int) < 0 ∨ 128 ≤ (-1 : Int)) ∧ ((128 : Int) < 0 ∨ 128 ≤ (128 : Int)) := by
  decide

theorem witness_HostReadsAndWritesAram : busy.aram.Wf := by decide +kernel

theorem witness_MuteVoicesSilences : (BitVec.ofInt 8 0x80).getLsbD (7 : VoiceId).val = true ∧ signed16 busy.dsp.tMainOut.l ∧
    signed16 busy.dsp.tMainOut.r ∧ signed16 busy.dsp.tEchoOut.l ∧ signed16 busy.dsp.tEchoOut.r := by decide +kernel

theorem witness_ConstructBindsAram : (⟨0xFFFF, []⟩ : AramImage).size ≠ 0x10000 ∧ (⟨0x10000, []⟩ : AramImage).size = 0x10000 := by decide

theorem witness_CopyStateRoundTrip :
    busy.dsp.Wf ∧ ¬ ({ dsp0 with counter := 30720 } : Dsp).Wf := ⟨witness_dsp, by decide +kernel⟩

theorem witness_PseudoCommandsExpand : (0x02FC : Addr) = BitVec.ofNat 16 (0x100 * (0xFF : Byte).toNat + 4 * (0xFF : Byte).toNat) := by decide

theorem witness_ResamplerClears : ∃ cleared : Nat → Rat → Resampler, ∀ k r,
    cleared k r = ⟨List.replicate k 0, 0, 0, r, 1, ⟨0, 0, 0, 0⟩, ⟨0, 0, 0, 0⟩⟩ := ⟨_, fun _ _ => rfl⟩

theorem witness_ResamplerQueries : 0 < State.reset.resampler.step := by decide +kernel

/-- Both sides of the room check at its boundary. -/
theorem witness_PushStoresAllOrNothing :
    (withFrames 8 1 [(1, 2)]).resampler.Wf ∧ (8 - 4 < ([1, 2, 3, 4, 5] : List Byte).length) ∧ ¬ (8 - 4 < ([1, 2, 3, 4] : List Byte).length) := by
  decide +kernel

/-- No whole frame; a whole frame at position 1, the last that yields output, and at a position above it; the four bytes of the frame and
its two samples. -/
theorem witness_ReadOneFrame :
    let r := (withFrames 4 1 [(1000, -1000)]).resampler
    (withFrames 4 1 []).resampler.size < 4 ∧ (r.Wf ∧ 4 ≤ r.size ∧ r.frac ≤ 1) ∧
    (({ r with step := 2, frac := 2 } : Resampler).Wf ∧ 1 < ({ r with step := 2, frac := 2 } : Resampler).frac ∧ (2 : Int) ≤ 2) ∧
    (∀ i, i < 4 → r.buffer[(r.start + i) % r.buffer.length]? = some (([0xE8, 0x03, 0x18, 0xFC] : List Byte).getD i 0)) ∧
    1000 = sext16 ((0xE8 : Byte).toNat + 0x100 * (0x03 : Byte).toNat) ∧ -1000 = sext16 ((0x18 : Byte).toNat + 0x100 * (0xFC : Byte).toNat) := by
  decide +kernel

/-- The Hermite premise of `ReadOneFrame` is met by a function. -/
theorem witness_ReadOneFrame_hermite : ∃ h : Rat → History → Int, ∀ mu g, ∃ value : Rat, h mu g = value.num.tdiv value.den ∧
    value = (2 * mu ^ 3 - 3 * mu ^ 2 + 1) * g.b + (mu ^ 3 - 2 * mu ^ 2 + mu) * (((g.c : Rat) - g.a) / 2)
      + (mu ^ 3 - mu ^ 2) * (((g.d : Rat) - g.b) / 2) + (-2 * mu ^ 3 + 3 * mu ^ 2) * g.c :=
  ⟨fun mu g =>
    let value : Rat := (2 * mu ^ 3 - 3 * mu ^ 2 + 1) * g.b + (mu ^ 3 - 2 * mu ^ 2 + mu) * (((g.c : Rat) - g.a) / 2)
      + (mu ^ 3 - mu ^ 2) * (((g.d : Rat) - g.b) / 2) + (-2 * mu ^ 3 + 3 * mu ^ 2) * g.c
    value.num.tdiv value.den, fun _ _ => ⟨_, rfl, rfl⟩⟩

theorem witness_ReadInPieces : (withFrames 4 1 [(1000, -1000)]).resampler.Wf ∧ (1 : Int) ≤ 1 := by decide +kernel

theorem witness_CacheSilenceReadsZeros : 18 = (withFrames 18 1 []).resampler.buffer.length ∧ (withFrames 18 1 []).resampler.step = 1 := by
  decide +kernel

/-- The five patterns. -/
theorem witness_GainWordsRunTheEnvelope :
    ∀ q ∈ [(Instr.gainDirect 0 127, 0x7F), (.gainLinearDecrease 0 0, 0x80), (.gainExponentialDecrease 0 31, 0xBF), (.gainLinearIncrease 0 0, 0xC0),
        (.gainTwoSlopeIncrease 0 31, 0xFF)],
      q ∈ [(Instr.gainDirect 0 127, (127 : BitVec 7).toNat), (.gainLinearDecrease 0 0, 0b10000000 + (0 : BitVec 5).toNat),
        (.gainExponentialDecrease 0 31, 0b10100000 + (31 : BitVec 5).toNat), (.gainLinearIncrease 0 0, 0b11000000 + (0 : BitVec 5).toNat),
        (.gainTwoSlopeIncrease 0 31, 0b11100000 + (31 : BitVec 5).toNat)] := by decide +kernel

/-- Two of the rows at the ends of their fields, as members of the statement's list. -/
theorem witness_BrrWordsDecodeAGroup :
    (Instr.brrFilter3 0 15 true true, (0xFF : Byte).toNat, (0 : Byte)) = (.brrFilter3 0 15 true true, 15 * 16 + 12 + 2 + 1, dsp0.tBrrByte) ∧
    (Instr.brrShiftInvalid 0 3 3 true true, (0xFF : Byte).toNat, (0 : Byte)) = (.brrShiftInvalid 0 3 3 true true, (12 + 3) * 16 + 3 * 4 + 2 + 1, dsp0.tBrrByte) ∧
    (Instr.brrData 0 15 (3#2 ++ 3#2), (0 : Byte).toNat, (0xFF : Byte))
      = (.brrData 0 15 (3#2 ++ 3#2), dsp0.tBrrHeader.toNat, BitVec.ofNat 8 (15 * 16 + 3 * 4 + 3)) := by decide +kernel

/-- In a block and at its end. -/
theorem witness_BrrFlagsActOnTheBlock : ¬ 9 ≤ Voice.reset.brrOffset + 2 ∧ 9 ≤ (busy.dsp.voice 7).brrOffset + 2 := by decide +kernel

/-- An instruction that completes and is none of the three; for the statements about the parameters and about the output. -/
theorem witness_OutputIsNeverDropped : (∃ t, exec .e27 State.reset = .next t) ∧ Instr.e27 ≠ .reset ∧ Instr.e27 ≠ .init ∧ ∀ a, Instr.e27 ≠ .construct a :=
  ⟨⟨_, rfl⟩, by decide, by decide, fun _ => by simp⟩

theorem witness_NoInstructionChangesTheParameters : ∃ t, exec .e27 State.reset = .next t := ⟨_, rfl⟩

theorem witness_SilentWhileFlgMutes : (at0 (withRegs [(0x6C, 0x60)] dsp0) []).dsp.phase = 0 ∧
    (at0 (withRegs [(0x6C, 0x60)] dsp0) []).dsp.reg 0x6C &&& 0x60 = 0x60 := by decide +kernel

theorem witness_StepKeepsTheInvariant : busy.Inv ∧ ∃ t, step busy = .next t := ⟨witness_inv, _, rfl⟩

theorem witness_ReachableStatesMeetTheInvariant :
    Reachable { ({ State.reset with params := defaultParams, dsp := Dsp.reset defaultParams.resetImage 0 } : State) with
      issued := [] ++ [⟨.run 1, rfl⟩], hostBytes := [] ++ [0x5A] } :=
  .host (.reset defaultParams (by decide +kernel)) [⟨.run 1, rfl⟩] [0x5A]

end Sys2Proof.Tests
end

/-! PROOFS. 40_phase_scheduler.md: the rate counter's fires (R169, R170) and the global micro-ops M27 to M29 (R164 to R166). -/

namespace Sys2Proof.Machine

/-! ### The rate counter -/

/-- A fire is a divisibility: the form in which the facts about fires are proved (R169). -/
theorem fires_iff_dvd (c : Nat) (r : Fin 32) : fires c r = true ↔ ratePeriod[r] ∣ c + rateOffset[r] := by
  rw [fires, beq_iff_eq, readCounter, Nat.dvd_iff_mod_eq_zero]

/-- Rate 0: the argument stays in 1 to 30720, below the period 30721 (R169). -/
theorem fires_rate_zero {c : Nat} (h : c < 30720) : fires c 0 = false := by
  have hlt : c + rateOffset[(0 : Fin 32)] < ratePeriod[(0 : Fin 32)] := Nat.succ_lt_succ h
  rw [Bool.eq_false_iff, ne_eq, fires_iff_dvd]
  exact Nat.not_dvd_of_pos_of_lt (Nat.succ_pos c) hlt

/-- Rate 31: its period is 1 (R169). -/
theorem fires_rate_last (c : Nat) : fires c 31 = true := (fires_iff_dvd c 31).mpr (Nat.one_dvd _)

theorem ratePeriod_dvd_range : ∀ r : Fin 32, r ≠ 0 → ratePeriod[r] ∣ 30720 := by decide

theorem ratePeriod_pos {r : Fin 32} (h : r ≠ 0) : 0 < ratePeriod[r] :=
  Nat.pos_of_dvd_of_pos (ratePeriod_dvd_range r h) (by decide)

/-- The pattern of fires is seamless across the counter's wrap (R169). -/
theorem fires_add_range {r : Fin 32} (h : r ≠ 0) (c : Nat) : fires (c + 30720) r = fires c r := by
  rw [Bool.eq_iff_iff, fires_iff_dvd, fires_iff_dvd, Nat.add_right_comm]
  exact (Nat.dvd_add_iff_left (ratePeriod_dvd_range r h)).symm

/-- Among `p` consecutive numbers exactly one is a multiple of `p`. -/
theorem exists_unique_dvd_add {p : Nat} (hp : 0 < p) (a : Nat) : ∃ k, k < p ∧ ∀ j, j < p → (p ∣ a + j ↔ j = k) := by
  have hlt : (p - a % p) % p < p := Nat.mod_lt _ hp
  have hdvd : p ∣ a + (p - a % p) % p := by
    have hle : a % p ≤ p := (Nat.mod_lt a hp).le
    rw [Nat.dvd_iff_mod_eq_zero, Nat.add_mod_mod, ← Nat.mod_add_mod, Nat.add_sub_cancel' hle, Nat.mod_self]
  refine ⟨_, hlt, fun j hj => ⟨fun h => ?_, fun h => h ▸ hdvd⟩⟩
  have hmod : a + j ≡ a + (p - a % p) % p [MOD p] :=
    (Nat.modEq_zero_iff_dvd.mpr h).trans (Nat.modEq_zero_iff_dvd.mpr hdvd).symm
  exact hmod.add_left_cancel'.eq_of_lt_of_lt hj hlt

/-- A rate other than 0 fires exactly once in any run of its period's length (R169). -/
theorem fires_once_per_period {r : Fin 32} (h : r ≠ 0) (c : Nat) :
    ∃ k, k < ratePeriod[r] ∧ ∀ j, j < ratePeriod[r] → (fires (c + j) r = true ↔ j = k) := by
  simpa only [fires_iff_dvd, Nat.add_right_comm c] using exists_unique_dvd_add (ratePeriod_pos h) (c + rateOffset[r])

/-- Settles O17: a fire is a divisibility by the period, and every period but rate 0's divides the counter's range. -/
theorem rateCounterFires : Obligations.RateCounterFires :=
  ⟨fun _ _ => ⟨rfl, beq_iff_eq⟩, fun _ => fires_rate_zero, fires_rate_last,
    fun r h => Nat.mod_eq_zero_of_dvd (ratePeriod_dvd_range r h), fun _ => fires_once_per_period, fun _ => fires_add_range⟩

/-! ### M27, M28, M29 -/

/-- Settles O14: each is its micro-op alone, and the micro-op writes its latches only. -/
theorem latchesOfM27AndM28 : Obligations.LatchesOfM27AndM28 :=
  fun s => ⟨exec_microInstr .m27 s, exec_microInstr .m28 s⟩

/-- Settles O15: the micro-op tests the latch sample before its toggle, so the key-ons are shed when the toggle makes it 1. -/
theorem m29ShedsTakenKeyOns : Obligations.M29ShedsTakenKeyOns :=
  fun s => exec_microInstr .m29 s

end Sys2Proof.Machine

/-! PROOFS. 41_voice_pipeline.md: the pitch and the block fetch of V3a and V3b (R203, R204), the monitor registers of V6 to V9 (R217 to R220). -/

namespace Sys2Proof.Machine

/-- The instruction of a micro-op that works on the DSP alone: it completes, and the DSP is what the micro-op makes it (entry 15). -/
theorem exec_microInstr_of_mapDsp {op : MicroOp} {s : State} {g : Dsp → Dsp} {d : Dsp}
    (hrun : runMicroOp op s = s.mapDsp g) (hd : g s.dsp = d) : exec (microInstr op) s = .next { s with dsp := d } := by
  rw [exec_microInstr, hrun, State.mapDsp, hd]

/-! ### V3a, V3b -/

/-- The high pitch bits are the same number computed in `Nat` (R116). -/
theorem pitchHigh_eq_natCast (b : Byte) : pitchHigh b = (b.toNat % 0x40 * 0x100 : Nat) := (Nat.cast_mul _ _).symm

/-- V3a with its sum written out (R203). -/
theorem opV3a_eq (v : VoiceId) (d : Dsp) :
    opV3a v d = { d with tPitch := d.tPitch + ((d.reg (vreg v 3)).toNat % 0x40 * 0x100 : Nat) } := by
  rw [opV3a, pitchHigh_eq_natCast]

/-- Settles O20: V3a adds the six bits as a natural number, and V3b reads both bytes whatever the voice's state is. -/
theorem v3aAndV3bFetch : Obligations.V3aAndV3bFetch := fun v s =>
  ⟨exec_microInstr_of_mapDsp rfl (opV3a_eq v s.dsp), exec_microInstr (.v3b v) s⟩

/-! ### V6 to V9 -/

/-- V6 with its shift written as a floor division (R10, R217). -/
theorem opV6_eq (v : VoiceId) (d : Dsp) : opV6 v d = { d with outxBuf := BitVec.ofInt 8 (d.tOutput / 0x100) } := by
  have hshift : asr d.tOutput 8 = d.tOutput / 0x100 := by norm_num [asr]
  rw [opV6, hshift, byteOfInt]

/-- Settles O28: V6 stages a floor division; V7, V8 and V9 move bytes that are already staged. -/
theorem monitorPipeline : Obligations.MonitorPipeline := fun v s =>
  ⟨exec_microInstr_of_mapDsp rfl (opV6_eq v s.dsp), exec_microInstr (.v7 v) s, exec_microInstr (.v8 v) s,
    exec_microInstr (.v9 v) s⟩

end Sys2Proof.Machine

/-! PROOFS. 45_echo_fir.md: the output, the feedback and the emission of E26 and E27 (R307 to R309, R316), the ring and the write-back of
E28 to E30 (R310 to R313). -/

namespace Sys2Proof.Machine

/-! ### The write-back -/

/-- The shift to a word's high byte is a floor division (R10). -/
theorem asr_eight (x : Int) : asr x 8 = x / 0x100 := by norm_num [asr]

/-- FLG bit 5 latched: nothing is stored (R312). -/
theorem echoStore_of_disabled {d : Dsp} (h : d.tEchoEnabled.getLsbD 5 = true) (ch : Chan) (m : Memory) : echoStore ch d m = m :=
  if_pos h

/-- FLG bit 5 clear: the word is stored at its place in the frame (R312). -/
theorem echoStore_of_enabled {d : Dsp} (h : d.tEchoEnabled.getLsbD 5 = false) (ch : Chan) (m : Memory) :
    echoStore ch d m = memWriteWord m (echoWordAddr d.tEchoPtr ch) (d.tEchoOut.get ch) :=
  if_neg (Bool.eq_false_iff.mp h)

/-- What a byte of ARAM holds after an enabled echo write, the low byte's place first: the two places of the word differ (R11, R312). -/
theorem memRead_echoStore {d : Dsp} (h : d.tEchoEnabled.getLsbD 5 = false) {m : Memory} (hm : m.Wf) (ch : Chan) (a : Addr) :
    memRead (echoStore ch d m) a =
      if a = echoWordAddr d.tEchoPtr ch then BitVec.ofInt 8 (d.tEchoOut.get ch)
      else if a = echoWordAddr d.tEchoPtr ch + 1 then BitVec.ofInt 8 (d.tEchoOut.get ch / 0x100)
      else memRead m a := by
  rw [echoStore_of_enabled h, memRead_memWriteWord hm, asr_eight]
  by_cases hlow : a = echoWordAddr d.tEchoPtr ch
  · have hhigh : a ≠ echoWordAddr d.tEchoPtr ch + 1 := by bv_omega
    rw [if_neg hhigh, if_pos hlow, if_pos hlow, byteOfInt]
  · rw [if_neg hlow, if_neg hlow, byteOfInt]

/-- E29 stores with the latch, the frame address and the word it found: its own latches come too late to matter (R311). -/
theorem opE29_aram (s : State) : (opE29 s).aram = echoStore .left s.dsp s.aram := rfl

theorem opE30_aram (s : State) : (opE30 s).aram = echoStore .right s.dsp s.aram := rfl

/-- The high byte's place of the right word (R123). -/
theorem echoWordAddr_right_succ (ptr : Addr) : echoWordAddr ptr .right + 1 = ptr + 3 := BitVec.add_assoc ptr 2 1

/-- Settles O34: each instruction stores what `echoStore` of its channel does, and clears the accumulator outside that choice. -/
theorem echoWritesTheirWord : Obligations.EchoWritesTheirWord := by
  intro s hwf
  refine ⟨opE29 s, opE30 s, exec_microInstr .e29 s, exec_microInstr .e30 s, rfl, rfl, fun hoff => ?_, fun hon a => ?_⟩
  · exact ⟨echoStore_of_disabled hoff .left s.aram, echoStore_of_disabled hoff .right s.aram⟩
  · have hright := memRead_echoStore hon hwf .right a
    rw [echoWordAddr_right_succ] at hright
    exact ⟨memRead_echoStore hon hwf .left a, hright⟩

/-! ### The output and the feedback -/

/-- The shift of a volume product is a floor division (R10). -/
theorem asr_seven (x : Int) : asr x 7 = x / 0x80 := by norm_num [asr]

theorem echoOutput_eq (p : Params) (d : Dsp) (ch : Chan) :
    echoOutput p d ch = clamp16 (vol16 p (d.tMainOut.get ch * sext8 (d.reg (mvolReg ch)) / 0x80)
      + vol16 p (d.tEchoIn.get ch * sext8 (d.reg (evolReg ch)) / 0x80)) := by
  rw [echoOutput, asr_seven, asr_seven]

theorem feedback_eq (p : Params) (d : Dsp) (ch : Chan) :
    feedback p d ch = clearLow (clamp16 (d.tEchoOut.get ch + vol16 p (d.tEchoIn.get ch * sext8 (d.reg 0x0D) / 0x80))) := by
  rw [feedback, asr_seven]

/-- A reduction that follows P12 on every product is `vol16` (R316). -/
theorem eq_vol16 {p : Params} {vol : Int → Int} (h : ∀ x, vol x = if p.volumeProductWrap then sext16 x else clamp16 x) :
    vol = vol16 p := funext h

/-- Settles O31: E26 writes the left output and both feedbacks, whose shifts are floor divisions. -/
theorem e26OutputsAndFeedsBack : Obligations.E26OutputsAndFeedsBack := by
  intro s vol hvol
  obtain rfl := eq_vol16 hvol
  refine exec_microInstr_of_mapDsp (op := .e26) rfl ?_
  rw [opE26, echoOutput_eq, feedback_eq, feedback_eq]
  rfl

/-- Settles O32: E27 emits the parked left value with the right output, and FLG bit 6 chooses the pair only. -/
theorem e27EmitsThePair : Obligations.E27EmitsThePair := by
  intro s vol hvol
  obtain rfl := eq_vol16 hvol
  refine (exec_microInstr .e27 s).trans ?_
  rw [runMicroOp, opE27, emittedPair, echoOutput_eq]
  rfl

/-! ### The ring -/

/-- E29 besides its store (R311): the offset wraps against the length it has just latched. -/
theorem opE29_eq (s : State) : opE29 s = { s with
    aram := (opE29 s).aram
    dsp := { s.dsp with
      tEsa := s.dsp.reg 0x6D
      echoLength := nextEchoLength s.dsp
      echoOffset := if nextEchoLength s.dsp ≤ s.dsp.echoOffset + 4 then 0 else s.dsp.echoOffset + 4
      tEchoOut := { s.dsp.tEchoOut with l := 0 }
      tEchoEnabled := s.dsp.reg 0x6C } } := rfl

/-- Settles O33: E28 is its copy of FLG, and the length E29 latches is the one its wrap is tested against. -/
theorem e28AndE29Ring : Obligations.E28AndE29Ring := by
  intro s len hlen
  obtain rfl : len = nextEchoLength s.dsp := hlen
  exact ⟨exec_microInstr .e28 s, opE29 s, exec_microInstr .e29 s, opE29_eq s⟩

end Sys2Proof.Machine

/-! PROOFS. 46_output_resampler.md: what `Push` stores (R332), and `Read` over a buffer of silence (R333, R334, R340). -/

namespace Sys2Proof.Machine

/-! ### `Push` -/

/-- Storing bytes leaves every index they do not go to (R332). -/
theorem storeBytes_getElem?_of_ne (buffer : List Byte) (pos j : Nat) (bytes : List Byte)
    (hj : ∀ k : Nat, k < bytes.length → j ≠ (pos + k) % buffer.length) : (storeBytes buffer pos bytes)[j]? = buffer[j]? := by
  induction bytes generalizing buffer pos with
  | nil => rfl
  | cons b bytes ih =>
    have hhead : pos % buffer.length ≠ j := (hj 0 (Nat.succ_pos _)).symm
    have htail : ∀ k, k < bytes.length → j ≠ (pos + 1 + k) % (buffer.set (pos % buffer.length) b).length := fun k hk => by
      rw [List.length_set, Nat.add_right_comm]
      exact hj (k + 1) (Nat.succ_lt_succ hk)
    rw [storeBytes, ih _ _ htail, List.getElem?_set_ne hhead]

/-- Consecutive indices, fewer than the capacity, stay apart when taken modulo it. -/
theorem mod_ne_add_mod {n k : Nat} (pos : Nat) (hk : 0 < k) (hkn : k < n) : pos % n ≠ (pos + k) % n := fun h => by
  have hdvd : n ∣ pos + k - pos := (Nat.modEq_iff_dvd' (Nat.le_add_right pos k)).mp h
  rw [Nat.add_sub_cancel_left] at hdvd
  exact Nat.not_dvd_of_pos_of_lt hk hkn hdvd

/-- Bytes that fit the buffer are all found where they were stored: no later one falls on an earlier one (R332). -/
theorem storeBytes_getElem?_add_mod (buffer : List Byte) (pos k : Nat) (bytes : List Byte) (hfit : bytes.length ≤ buffer.length)
    (hk : k < bytes.length) : (storeBytes buffer pos bytes)[(pos + k) % buffer.length]? = bytes[k]? := by
  induction bytes generalizing buffer pos k with
  | nil => exact absurd hk (Nat.not_lt_zero k)
  | cons b bytes ih =>
    have hlen : (buffer.set (pos % buffer.length) b).length = buffer.length := List.length_set
    rw [List.length_cons] at hfit hk
    rw [storeBytes]
    cases k with
    | zero =>
      have hlater : ∀ k, k < bytes.length → pos % buffer.length ≠ (pos + 1 + k) % (buffer.set (pos % buffer.length) b).length :=
        fun k hk => by
          rw [hlen, Nat.add_assoc]
          exact mod_ne_add_mod pos (by omega) (by omega)
      rw [Nat.add_zero pos, storeBytes_getElem?_of_ne _ _ _ _ hlater, List.getElem?_set_self (Nat.mod_lt _ (by omega))]
      rfl
    | succ k =>
      have htail := ih (buffer.set (pos % buffer.length) b) (pos + 1) k (by omega) (Nat.lt_of_succ_lt_succ hk)
      rwa [hlen, Nat.add_assoc, Nat.add_comm 1 k] at htail

/-- `Push` without room: the status only (R332). -/
theorem exec_push_of_not_fits {bytes : List Byte} {s : State} (h : s.resampler.fits bytes = false) :
    exec (.push bytes) s = .next (s.report (.accepted false)) := by
  have hpush : s.resampler.push bytes = s.resampler := if_neg (Bool.eq_false_iff.mp h)
  show execPush bytes s = _
  rw [execPush, h, hpush]

/-- `Push` with room: the bytes stored after the stored ones, and the status (R332). -/
theorem exec_push_of_fits {bytes : List Byte} {s : State} (h : s.resampler.fits bytes = true) :
    exec (.push bytes) s = .next ({ s with resampler := { s.resampler with
      buffer := storeBytes s.resampler.buffer (s.resampler.start + s.resampler.size) bytes
      size := s.resampler.size + bytes.length } }.report (.accepted true)) := by
  show execPush bytes s = _
  rw [execPush, h, Resampler.push, if_pos h]

/-- Settles O46: the free room decides, and the bytes that fit do not overwrite one another. -/
theorem pushStoresAllOrNothing : Obligations.PushStoresAllOrNothing := by
  rintro bytes s ⟨hsize, -⟩
  split
  · next hroom =>
    have hfits : s.resampler.fits bytes = false := decide_eq_false (by omega)
    exact exec_push_of_not_fits hfits
  · next hroom =>
    have hfits : bytes.length + s.resampler.size ≤ s.resampler.buffer.length := by omega
    exact ⟨_, exec_push_of_fits (decide_eq_true hfits), rfl, storeBytes_length ..,
      fun k => storeBytes_getElem?_add_mod _ _ k bytes (Nat.le_of_add_right_le hfits), fun j _ => storeBytes_getElem?_of_ne _ _ j bytes⟩

/-! ### `CacheSilence` -/

/-- The inner loop of `Read` with the position at most 1: an output frame, and the position moved by the ratio (R333). -/
theorem Resampler.emit_of_le {r : Resampler} (h : r.frac ≤ 1) (want : Nat) :
    emit (want + 1) r = (r.outputFrame ++ (emit want { r with frac := r.frac + r.step }).1,
      (emit want { r with frac := r.frac + r.step }).2) := if_pos h

/-- With the position above 1 it yields nothing (R333). -/
theorem Resampler.emit_of_lt {r : Resampler} (h : 1 < r.frac) (want : Nat) : emit want r = ([], r, want) := by
  cases want with
  | zero => rfl
  | succ want => exact if_neg (not_le_of_gt h)

/-- A resampler over silence at ratio 1: zeros in the buffer, zeros in both histories (R340). -/
def Resampler.silent (cap start size : Nat) (frac : Rat) : Resampler :=
  ⟨List.replicate cap 0, start, size, 1, frac, .zero, .zero⟩

/-- Over a history of zeros the kernel is 0 at every position (R334). -/
theorem hermite_zero (mu : Rat) : hermite mu .zero = 0 := by
  have hvalue : hermiteValue mu .zero = 0 := by simp [hermiteValue, History.zero]
  rw [hermite, hvalue]
  rfl

section
variable (cap start size : Nat) (frac : Rat)

theorem Resampler.silent_byteAt (i : Nat) : (silent cap start size frac).byteAt i = 0 := by
  rw [byteAt, List.getD_eq_getElem?_getD, silent, List.getElem?_replicate]
  split <;> rfl

theorem Resampler.silent_oldestFrame : (silent cap start size frac).oldestFrame = ⟨0, 0⟩ := by
  simp only [oldestFrame, silent_byteAt]
  rfl

theorem Resampler.silent_outputFrame : (silent cap start size frac).outputFrame = [0, 0] := by
  simp only [outputFrame, silent, hermite_zero]
  rfl

/-- An output frame moves the position from 1 to 2, so the inner loop yields one frame of zeros and stops (R333). -/
theorem Resampler.emit_silent (want : Nat) :
    emit (want + 1) (silent cap start size 1) = ([0, 0], silent cap start size 2, want) := by
  have hmove : (1 : Rat) + 1 = 2 := by norm_num
  have hstop : emit want (silent cap start size 2) = ([], silent cap start size 2, want) :=
    emit_of_lt (by norm_num [silent]) want
  rw [emit_of_le (le_refl (1 : Rat)), silent_outputFrame]
  simp only [silent, hmove] at hstop ⊢
  rw [hstop]
  rfl

/-- The input frame taken after it is one of zeros and moves the position back to 1 (R333). -/
theorem Resampler.pull_silent : (silent cap start size 2).pull = silent cap ((start + 4) % cap) (size - 4) 1 := by
  have hback : (silent cap start size 2).frac - 1 = 1 := by norm_num [silent]
  rw [pull, silent_oldestFrame, hback]
  simp only [silent, List.length_replicate]
  rfl

/-- At ratio 1 each frame of silence read takes one frame of silence, so as many are read as are stored (R333, R340). -/
theorem Resampler.readLoop_silent (n : Nat) : ∃ start',
    readLoop n n (silent cap start size 1) = (List.replicate (2 * n) 0, silent cap start' (size - 4 * n) 1) := by
  induction n generalizing start size with
  | zero => exact ⟨start, rfl⟩
  | succ n ih =>
    obtain ⟨start', hrest⟩ := ih ((start + 4) % cap) (size - 4)
    have hpulls : ¬ (silent cap start size 2).frac ≤ 1 := by norm_num [silent]
    have hsize : size - 4 - 4 * n = size - 4 * (n + 1) := by omega
    refine ⟨start', ?_⟩
    rw [readLoop, emit_silent]
    simp only [if_neg hpulls, pull_silent, hrest, hsize]
    rfl

/-- `Read` of the whole frames stored, over silence at ratio 1 (R340). -/
theorem Resampler.read_silent : ∃ start', (silent cap start size 1).read (2 * (size / 4) : Nat) =
    (List.replicate (2 * (size / 4)) 0, silent cap start' (size % 4) 1) := by
  obtain ⟨start', hloop⟩ := readLoop_silent cap start size (size / 4)
  have hwant : framesWanted (2 * (size / 4) : Nat) = size / 4 := Nat.mul_div_cancel_left _ (by decide)
  have hleft : size - 4 * (size / 4) = size % 4 := by omega
  rw [hleft] at hloop
  refine ⟨start', ?_⟩
  rw [read, hwant]
  exact hloop

end

/-- At ratio 1 what `CacheSilence` leaves is silence, a full buffer of it at position 1 (R340). -/
theorem Resampler.cacheSilence_eq_silent {r : Resampler} (h : r.step = 1) :
    r.cacheSilence = silent r.buffer.length 0 r.buffer.length 1 := by
  rw [cacheSilence, clear, h, silent]

/-- Settles O49: `CacheSilence` leaves a full buffer of silence, and `Read` takes one frame of it for each it yields. -/
theorem cacheSilenceReadsZeros : Obligations.CacheSilenceReadsZeros := by
  rintro s cap rfl
  refine ⟨_, rfl, rfl, fun hstep => ?_⟩
  obtain ⟨start', hread⟩ := Resampler.read_silent s.resampler.buffer.length 0 s.resampler.buffer.length
  rw [← Resampler.cacheSilence_eq_silent hstep] at hread
  refine ⟨_, rfl, ?_, ?_⟩
  · simp only [State.report, hread]
  · simp only [State.report_resampler, hread]
    exact ⟨rfl, rfl, rfl, rfl⟩

end Sys2Proof.Machine

/-! PROOFS. 60_exceptions.md: `Run` as its ticks, and its fault F1 (R160, R391). -/

namespace Sys2Proof.Machine

/-- A count that is not negative runs its ticks (R160). -/
theorem exec_run_natCast (n : Nat) (s : State) : exec (.run n) s = .next (runTicks n s) := by
  have hcount : ¬ (n : Int) < 0 := Int.not_lt.mpr (Int.natCast_nonneg n)
  show execRun n s = _
  rw [execRun, if_neg hcount, Int.toNat_natCast]

/-- A negative count is F1: no tick runs, and only the code is reported (R391). -/
theorem exec_run_of_neg {n : Int} (h : n < 0) (s : State) : exec (.run n) s = .next (s.report (.fault .invalidTicks)) :=
  if_pos h

/-- Ticks run one after another, so a run splits anywhere (R160). -/
theorem runTicks_add (a b : Nat) (s : State) : runTicks (a + b) s = runTicks b (runTicks a s) := by
  induction a generalizing s with
  | zero => rw [Nat.zero_add, runTicks]
  | succ a ih => rw [Nat.succ_add, runTicks, runTicks, ih]

/-- Settles O10: `Run` is `runTicks`, whose first tick is the current row and which splits by induction on the first part. -/
theorem runIsItsTicks : Obligations.RunIsItsTicks := by
  refine ⟨exec_run_natCast 0, fun n s => ?_, fun a b s => ?_, fun n s hn => exec_run_of_neg hn s⟩
  · exact ⟨tick s, runTicks n (tick s), exec_phaseInstr s.dsp.phase s, exec_run_natCast n _, exec_run_natCast (n + 1) s⟩
  · refine ⟨runTicks a s, runTicks b (runTicks a s), exec_run_natCast a s, exec_run_natCast b _, ?_⟩
    rw [exec_run_natCast, runTicks_add]

end Sys2Proof.Machine

/-! PROOFS. 30_encoding.md: the value of a byte put together from its fields, and the fields read back from it (R110 to R125). -/

namespace Sys2Proof

/-! ### The value of a byte put together from its fields -/

/-- Fields side by side: the high one counts in units of the low one's range. -/
theorem toNat_append_eq {m n : Nat} (x : BitVec m) (y : BitVec n) : (x ++ y).toNat = x.toNat * 2 ^ n + y.toNat := by
  rw [BitVec.toNat_append, ← Nat.shiftLeft_add_eq_or_of_lt y.isLt, Nat.shiftLeft_eq]

@[simp] theorem bit_toNat (b : Bool) : (bit b).toNat = b.toNat := BitVec.toNat_ofBool b

theorem flgByte_toNat (r m e : Bool) (n : BitVec 5) :
    (flgByte r m e n).toNat = r.toNat * 128 + m.toNat * 64 + e.toNat * 32 + n.toNat := by
  simp only [flgByte, toNat_append_eq, bit_toNat]
  omega

theorem adsr1Byte_toNat (e : Bool) (d : BitVec 3) (a : BitVec 4) :
    (adsr1Byte e d a).toNat = e.toNat * 128 + d.toNat * 16 + a.toNat := by
  simp only [adsr1Byte, toNat_append_eq, bit_toNat]
  omega

theorem adsr2Byte_toNat (l : BitVec 3) (r : BitVec 5) : (adsr2Byte l r).toNat = l.toNat * 32 + r.toNat :=
  toNat_append_eq l r

theorem gainDirectByte_toNat (level : BitVec 7) : (gainDirectByte level).toNat = level.toNat := by
  simp only [gainDirectByte, toNat_append_eq, BitVec.toNat_ofNat]
  omega

theorem gainModeByte_toNat (mode : BitVec 2) (r : BitVec 5) :
    (gainModeByte mode r).toNat = 128 + mode.toNat * 32 + r.toNat := by
  simp only [gainModeByte, toNat_append_eq, BitVec.toNat_ofNat]
  omega

theorem pitchhByte_toNat (x : BitVec 2) (p : BitVec 6) : (pitchhByte x p).toNat = x.toNat * 64 + p.toNat :=
  toNat_append_eq x p

theorem brrHeaderByte_toNat (s : BitVec 4) (f : BitVec 2) (l e : Bool) :
    (brrHeaderByte s f l e).toNat = s.toNat * 16 + f.toNat * 4 + l.toNat * 2 + e.toNat := by
  simp only [brrHeaderByte, toNat_append_eq, bit_toNat]
  omega

theorem invalidShift_toNat (s : BitVec 2) : (invalidShift s).toNat = 12 + s.toNat := by
  simp only [invalidShift, toNat_append_eq, BitVec.toNat_ofNat]
  omega

theorem brrDataByte_toNat (a b : BitVec 4) : (brrDataByte a b).toNat = a.toNat * 16 + b.toNat := toNat_append_eq a b

/-- A field of a byte is a quotient and a remainder of its value. -/
theorem extractLsb'_toNat_eq (b : Byte) (i n : Nat) : (b.extractLsb' i n).toNat = b.toNat / 2 ^ i % 2 ^ n := by
  rw [BitVec.extractLsb'_toNat, Nat.shiftRight_eq_div_pow]

theorem bitOf_eq_decide (b : Byte) (i : Nat) : bitOf b i = decide (b.toNat / 2 ^ i % 2 = 1) := by
  rw [bitOf, BitVec.getLsbD, Nat.testBit_eq_decide_div_mod_eq]

theorem bitOf_toNat (b : Byte) (i : Nat) : (bitOf b i).toNat = b.toNat / 2 ^ i % 2 := by
  rw [bitOf_eq_decide]
  rcases Nat.mod_two_eq_zero_or_one (b.toNat / 2 ^ i) with h | h <;> simp [h]

/-! ### Two bytes of a word -/

theorem lowByte_toNat (w : BitVec 16) : (lowByte w).toNat = w.toNat % 256 := BitVec.toNat_ofNat ..

theorem highByte_toNat (w : BitVec 16) : (highByte w).toNat = w.toNat / 256 := by
  rw [highByte, BitVec.toNat_ofNat]
  exact Nat.mod_eq_of_lt (by omega)

theorem wordOfBytes_toNat (lo hi : Byte) : (wordOfBytes lo hi).toNat = lo.toNat + 256 * hi.toNat := by
  rw [wordOfBytes, BitVec.toNat_ofNat]
  exact Nat.mod_eq_of_lt (by omega)

@[simp] theorem wordOfBytes_lowByte_highByte (w : BitVec 16) : wordOfBytes (lowByte w) (highByte w) = w := by
  apply BitVec.eq_of_toNat_eq
  rw [wordOfBytes_toNat, lowByte_toNat, highByte_toNat]
  omega

@[simp] theorem lowByte_wordOfBytes (lo hi : Byte) : lowByte (wordOfBytes lo hi) = lo := by
  apply BitVec.eq_of_toNat_eq
  rw [lowByte_toNat, wordOfBytes_toNat]
  omega

@[simp] theorem highByte_wordOfBytes (lo hi : Byte) : highByte (wordOfBytes lo hi) = hi := by
  apply BitVec.eq_of_toNat_eq
  rw [highByte_toNat, wordOfBytes_toNat]
  omega

/-! ### Fields read back from a byte -/

theorem extractLsb'_eq_of_toNat {b : Byte} {i n : Nat} {x : BitVec n} (h : b.toNat / 2 ^ i % 2 ^ n = x.toNat) :
    b.extractLsb' i n = x :=
  BitVec.eq_of_toNat_eq ((extractLsb'_toNat_eq b i n).trans h)

theorem bitOf_eq_of_toNat {b : Byte} {i : Nat} {x : Bool} (h : b.toNat / 2 ^ i % 2 = x.toNat) : bitOf b i = x := by
  have hinj : ∀ y z : Bool, y.toNat = z.toNat → y = z := by decide
  exact hinj _ _ ((bitOf_toNat b i).trans h)

theorem decode_flgByte (r m e : Bool) (n : BitVec 5) (rest : List Byte) :
    decode .flg (flgByte r m e n :: rest) = .ok (.flgFields r m e n, rest) := by
  have hb := flgByte_toNat r m e n
  have hr := r.toNat_lt
  have hm := m.toNat_lt
  have he := e.toNat_lt
  have h7 : bitOf (flgByte r m e n) 7 = r := bitOf_eq_of_toNat (by omega)
  have h6 : bitOf (flgByte r m e n) 6 = m := bitOf_eq_of_toNat (by omega)
  have h5 : bitOf (flgByte r m e n) 5 = e := bitOf_eq_of_toNat (by omega)
  have h0 : (flgByte r m e n).extractLsb' 0 5 = n := extractLsb'_eq_of_toNat (by omega)
  rw [decode, oneByte, h7, h6, h5, h0, Except.map]

theorem decode_adsr1Byte (v : VoiceId) (e : Bool) (d : BitVec 3) (a : BitVec 4) (rest : List Byte) :
    decode (.adsr1 v) (adsr1Byte e d a :: rest) = .ok (.adsr1Fields v e d a, rest) := by
  have hb := adsr1Byte_toNat e d a
  have he := e.toNat_lt
  have h7 : bitOf (adsr1Byte e d a) 7 = e := bitOf_eq_of_toNat (by omega)
  have h4 : (adsr1Byte e d a).extractLsb' 4 3 = d := extractLsb'_eq_of_toNat (by omega)
  have h0 : (adsr1Byte e d a).extractLsb' 0 4 = a := extractLsb'_eq_of_toNat (by omega)
  rw [decode, oneByte, h7, h4, h0, Except.map]

theorem decode_adsr2Byte (v : VoiceId) (l : BitVec 3) (r : BitVec 5) (rest : List Byte) :
    decode (.adsr2 v) (adsr2Byte l r :: rest) = .ok (.adsr2Fields v l r, rest) := by
  have hb := adsr2Byte_toNat l r
  have h5 : (adsr2Byte l r).extractLsb' 5 3 = l := extractLsb'_eq_of_toNat (by omega)
  have h0 : (adsr2Byte l r).extractLsb' 0 5 = r := extractLsb'_eq_of_toNat (by omega)
  rw [decode, oneByte, h5, h0, Except.map]

theorem decode_pitchhByte (v : VoiceId) (x : BitVec 2) (p : BitVec 6) (rest : List Byte) :
    decode (.pitchh v) (pitchhByte x p :: rest) = .ok (.pitchhFields v x p, rest) := by
  have hb := pitchhByte_toNat x p
  have h6 : (pitchhByte x p).extractLsb' 6 2 = x := extractLsb'_eq_of_toNat (by omega)
  have h0 : (pitchhByte x p).extractLsb' 0 6 = p := extractLsb'_eq_of_toNat (by omega)
  rw [decode, oneByte, h6, h0, Except.map]

theorem decode_brrDataByte (v : VoiceId) (a b : BitVec 4) (rest : List Byte) :
    decode (.brrData v) (brrDataByte a b :: rest) = .ok (.brrData v a b, rest) := by
  have hb := brrDataByte_toNat a b
  have h4 : (brrDataByte a b).extractLsb' 4 4 = a := extractLsb'_eq_of_toNat (by omega)
  have h0 : (brrDataByte a b).extractLsb' 0 4 = b := extractLsb'_eq_of_toNat (by omega)
  rw [decode, oneByte, h4, h0, Except.map]

/-- The four fields of a BRR header (R121), whatever part of it a format reads. -/
theorem brrHeaderByte_fields (s : BitVec 4) (f : BitVec 2) (l e : Bool) :
    (brrHeaderByte s f l e).extractLsb' 4 4 = s ∧ (brrHeaderByte s f l e).extractLsb' 2 2 = f ∧
    bitOf (brrHeaderByte s f l e) 1 = l ∧ bitOf (brrHeaderByte s f l e) 0 = e := by
  have hb := brrHeaderByte_toNat s f l e
  have hl := l.toNat_lt
  have he := e.toNat_lt
  exact ⟨extractLsb'_eq_of_toNat (by omega), extractLsb'_eq_of_toNat (by omega), bitOf_eq_of_toNat (by omega),
    bitOf_eq_of_toNat (by omega)⟩

/-- A header read by its filter, which selects the instruction (R244 to R247). -/
theorem decodeBrrFilter_brrHeaderByte (v : VoiceId) (s : BitVec 4) (f : BitVec 2) (l e : Bool) :
    decodeBrrFilter v (brrHeaderByte s f l e) =
      (#v[.brrFilter0 v s l e, .brrFilter1 v s l e, .brrFilter2 v s l e, .brrFilter3 v s l e] : Vector Instr 4)[f.toFin] := by
  have hb := brrHeaderByte_toNat s f l e
  have hl := l.toNat_lt
  have he := e.toNat_lt
  have hread : (brrHeaderByte s f l e).toNat / 4 % 4 = f.toNat := by omega
  obtain ⟨h4, -, h1, h0⟩ := brrHeaderByte_fields s f l e
  rw [decodeBrrFilter, hread, h4, h1, h0]
  obtain ⟨⟨k, hk⟩⟩ := f
  interval_cases k <;> rfl

/-- A header read by its shift, in the valid range (R242). -/
theorem decodeBrrShift_valid (v : VoiceId) {s : BitVec 4} (hs : s.toNat ≤ 12) (f : BitVec 2) (l e : Bool) :
    decodeBrrShift v (brrHeaderByte s f l e) = .brrShiftValid v s f l e := by
  have hb := brrHeaderByte_toNat s f l e
  have hl := l.toNat_lt
  have he := e.toNat_lt
  have hshift : (brrHeaderByte s f l e).toNat / 16 ≤ 12 := by omega
  obtain ⟨h4, h2, h1, h0⟩ := brrHeaderByte_fields s f l e
  rw [decodeBrrShift, if_pos hshift, h4, h2, h1, h0]

/-- A header read by its shift, in the invalid range (R243). -/
theorem decodeBrrShift_invalid (v : VoiceId) {s : BitVec 2} (hs : s ≠ 0) (f : BitVec 2) (l e : Bool) :
    decodeBrrShift v (brrHeaderByte (invalidShift s) f l e) = .brrShiftInvalid v s f l e := by
  have hpos : s.toNat ≠ 0 := fun h => hs (BitVec.eq_of_toNat_eq h)
  have hb := brrHeaderByte_toNat (invalidShift s) f l e
  rw [invalidShift_toNat] at hb
  have hl := l.toNat_lt
  have he := e.toNat_lt
  have hshift : ¬ (brrHeaderByte (invalidShift s) f l e).toNat / 16 ≤ 12 := by omega
  have hs : (brrHeaderByte (invalidShift s) f l e).extractLsb' 4 2 = s := extractLsb'_eq_of_toNat (by omega)
  obtain ⟨-, h2, h1, h0⟩ := brrHeaderByte_fields (invalidShift s) f l e
  rw [decodeBrrShift, if_neg hshift, hs, h2, h1, h0]

/-- Bits 1 and 0 of a header, the loop and end flags (R121). -/
theorem brrHeaderByte_mod_four (s : BitVec 4) (f : BitVec 2) (l e : Bool) :
    (brrHeaderByte s f l e).toNat % 4 = l.toNat * 2 + e.toNat := by
  have hl := l.toNat_lt
  have he := e.toNat_lt
  rw [brrHeaderByte_toNat]
  omega

/-- A header read by its flags: end without loop (R209). -/
theorem decodeBrrEnd_terminator (v : VoiceId) (s : BitVec 4) (f : BitVec 2) :
    decodeBrrEnd v (brrHeaderByte s f false true) = .brrTerminator v s f := by
  obtain ⟨h4, h2, -, -⟩ := brrHeaderByte_fields s f false true
  rw [decodeBrrEnd, brrHeaderByte_mod_four, h4, h2]
  rfl

/-- A header read by its flags: end with loop (R213). -/
theorem decodeBrrEnd_endLoop (v : VoiceId) (s : BitVec 4) (f : BitVec 2) :
    decodeBrrEnd v (brrHeaderByte s f true true) = .brrEndLoop v s f := by
  obtain ⟨h4, h2, -, -⟩ := brrHeaderByte_fields s f true true
  rw [decodeBrrEnd, brrHeaderByte_mod_four, h4, h2]
  rfl

/-- A header read by its flags: not the end, whatever the loop flag is (R213). -/
theorem decodeBrrEnd_notEnd (v : VoiceId) (s : BitVec 4) (f : BitVec 2) (l : Bool) :
    decodeBrrEnd v (brrHeaderByte s f l false) = .brrNotEnd v s f l := by
  obtain ⟨h4, h2, h1, -⟩ := brrHeaderByte_fields s f l false
  rw [decodeBrrEnd, brrHeaderByte_mod_four, h4, h2, h1]
  cases l <;> rfl

/-- A GAIN byte with bit 7 clear is the direct gain (R266). -/
theorem decodeGain_gainDirectByte (v : VoiceId) (level : BitVec 7) :
    decodeGain v (gainDirectByte level) = .gainDirect v level := by
  have hb := gainDirectByte_toNat level
  have h0 : (gainDirectByte level).extractLsb' 0 7 = level := extractLsb'_eq_of_toNat (by omega)
  rw [decodeGain, h0]
  split
  iterate 4 omega
  rfl

/-- A GAIN byte with bit 7 set: bits 6 and 5 select the mode (R267 to R270). -/
theorem decodeGain_gainModeByte (v : VoiceId) (mode : BitVec 2) (r : BitVec 5) :
    decodeGain v (gainModeByte mode r) =
      (#v[.gainLinearDecrease v r, .gainExponentialDecrease v r, .gainLinearIncrease v r, .gainTwoSlopeIncrease v r] :
        Vector Instr 4)[mode.toFin] := by
  have hb := gainModeByte_toNat mode r
  have hmode : (gainModeByte mode r).toNat / 32 = 4 + mode.toNat := by omega
  have hrate : (gainModeByte mode r).extractLsb' 0 5 = r := extractLsb'_eq_of_toNat (by omega)
  rw [decodeGain, hmode, hrate]
  obtain ⟨⟨k, hk⟩⟩ := mode
  interval_cases k <;> rfl

/-! ### The Host commands -/

/-- An integer that is a byte comes back from its byte. -/
theorem toNat_ofInt_byte {x : Int} (h : 0 ≤ x ∧ x < 256) : ((BitVec.ofInt 8 x).toNat : Int) = x := by
  rw [BitVec.toNat_ofInt]
  omega

/-- The four bytes of a tick count, low byte first (R127). -/
theorem ticks_of_bytes {n : Int} (h : 0 ≤ n ∧ n < 4294967296) :
    (((BitVec.ofInt 8 n).toNat + 256 * (BitVec.ofInt 8 (n / 256)).toNat + 65536 * (BitVec.ofInt 8 (n / 65536)).toNat
      + 16777216 * (BitVec.ofInt 8 (n / 16777216)).toNat : Nat) : Int) = n := by
  simp only [BitVec.toNat_ofInt]
  omega

/-! ### Register addresses -/

/-- A register address byte names its row and index (R111). -/
theorem decodeRa_raByte (acc : RegAccess) (x : Fin 8) (r : Fin 16) :
    decodeRa acc (BitVec.ofNat 8 (16 * x.val + r.val)) = .ok (regRow acc x r) := by
  have hb : (BitVec.ofNat 8 (16 * x.val + r.val)).toNat = 16 * x.val + r.val := by
    rw [BitVec.toNat_ofNat]
    omega
  have hlt : (BitVec.ofNat 8 (16 * x.val + r.val)).toNat < 128 := by omega
  rw [decodeRa, dif_pos hlt]
  congr 2
  · ext; show _ / 16 = _; omega
  · ext; show _ % 16 = _; omega

end Sys2Proof

/-! PROOFS. 30_encoding.md: decoding an encoded instruction gives it back (R110 to R129). -/

namespace Sys2Proof

theorem decode_ra_cons (acc : RegAccess) (x : Fin 8) (r : Fin 16) (rest : List Byte) :
    decode (.ra acc) (BitVec.ofNat 8 (16 * x.val + r.val) :: rest) = .ok (regRow acc x r, rest) := by
  rw [decode, oneByte, decodeRa_raByte, Except.map]

theorem twoWords_wordPairBytes (x y : BitVec 16) (f : BitVec 16 → BitVec 16 → Instr) (rest : List Byte) :
    twoWords f (wordPairBytes x y ++ rest) = .ok (f x y, rest) := by
  simp only [wordPairBytes, List.cons_append, List.nil_append, twoWords, wordOfBytes_lowByte_highByte]

/-- A one-byte format that takes every byte: what it answers is the instruction of the byte. -/
theorem oneByte_ok {g : Byte → Instr} {b : Byte} {i : Instr} (h : g b = i) (rest : List Byte) :
    oneByte (fun b => .ok (g b)) (b :: rest) = .ok (i, rest) := by
  rw [oneByte, h, Except.map]

/-- Settles O2: the words of the phase table are constants, and every other format has a lemma that reads its operands back. -/
theorem decodeOfEncode : Obligations.DecodeOfEncode := by
  intro i f code rest hwf henc
  cases i with
  | writeReg addr data =>
    cases henc
    simp only [wellFormed, Bool.and_eq_true, decide_eq_true_eq] at hwf
    obtain ⟨haddr, hdata⟩ := hwf
    exact congrArg₂ (fun a d => Except.ok (Instr.writeReg a d, rest)) (toNat_ofInt_byte haddr) (toNat_ofInt_byte hdata)
  | readReg addr =>
    cases henc
    exact congrArg (fun a => Except.ok (Instr.readReg a, rest)) (toNat_ofInt_byte (of_decide_eq_true hwf))
  | muteVoices mask =>
    cases henc
    exact congrArg (fun m => Except.ok (Instr.muteVoices m, rest)) (toNat_ofInt_byte (of_decide_eq_true hwf))
  | run ticks =>
    cases henc
    exact congrArg (fun n => Except.ok (Instr.run n, rest)) (ticks_of_bytes (of_decide_eq_true hwf))
  | aramWrite addr data =>
    cases henc
    exact congrArg (fun a => Except.ok (Instr.aramWrite a data, rest)) (wordOfBytes_lowByte_highByte addr)
  | aramRead addr =>
    cases henc
    exact congrArg (fun a => Except.ok (Instr.aramRead a, rest)) (wordOfBytes_lowByte_highByte addr)
  | voll x acc => cases henc; exact decode_ra_cons acc x 0 rest
  | volr x acc => cases henc; exact decode_ra_cons acc x 1 rest
  | pitchl x acc => cases henc; exact decode_ra_cons acc x 2 rest
  | pitchh x acc => cases henc; exact decode_ra_cons acc x 3 rest
  | srcn x acc => cases henc; exact decode_ra_cons acc x 4 rest
  | adsr1 x acc => cases henc; exact decode_ra_cons acc x 5 rest
  | adsr2 x acc => cases henc; exact decode_ra_cons acc x 6 rest
  | gain x acc => cases henc; exact decode_ra_cons acc x 7 rest
  | envx x acc => cases henc; exact decode_ra_cons acc x 8 rest
  | outx x acc => cases henc; exact decode_ra_cons acc x 9 rest
  | unusedA x acc => cases henc; exact decode_ra_cons acc x 10 rest
  | unusedB x acc => cases henc; exact decode_ra_cons acc x 11 rest
  | unusedE x acc => cases henc; exact decode_ra_cons acc x 14 rest
  | fir x acc => cases henc; exact decode_ra_cons acc x 15 rest
  | mvoll acc => cases henc; exact decode_ra_cons acc 0 12 rest
  | mvolr acc => cases henc; exact decode_ra_cons acc 1 12 rest
  | evoll acc => cases henc; exact decode_ra_cons acc 2 12 rest
  | evolr acc => cases henc; exact decode_ra_cons acc 3 12 rest
  | kon acc => cases henc; exact decode_ra_cons acc 4 12 rest
  | koff acc => cases henc; exact decode_ra_cons acc 5 12 rest
  | flg acc => cases henc; exact decode_ra_cons acc 6 12 rest
  | endx acc => cases henc; exact decode_ra_cons acc 7 12 rest
  | efb acc => cases henc; exact decode_ra_cons acc 0 13 rest
  | unused1D acc => cases henc; exact decode_ra_cons acc 1 13 rest
  | pmon acc => cases henc; exact decode_ra_cons acc 2 13 rest
  | non acc => cases henc; exact decode_ra_cons acc 3 13 rest
  | eon acc => cases henc; exact decode_ra_cons acc 4 13 rest
  | dir acc => cases henc; exact decode_ra_cons acc 5 13 rest
  | esa acc => cases henc; exact decode_ra_cons acc 6 13 rest
  | edl acc => cases henc; exact decode_ra_cons acc 7 13 rest
  | flgFields r m e n => cases henc; exact decode_flgByte r m e n rest
  | adsr1Fields v e d a => cases henc; exact decode_adsr1Byte v e d a rest
  | adsr2Fields v l r => cases henc; exact decode_adsr2Byte v l r rest
  | gainDirect v level => cases henc; exact oneByte_ok (decodeGain_gainDirectByte v level) rest
  | gainLinearDecrease v r => cases henc; exact oneByte_ok (decodeGain_gainModeByte v 0 r) rest
  | gainExponentialDecrease v r => cases henc; exact oneByte_ok (decodeGain_gainModeByte v 1 r) rest
  | gainLinearIncrease v r => cases henc; exact oneByte_ok (decodeGain_gainModeByte v 2 r) rest
  | gainTwoSlopeIncrease v r => cases henc; exact oneByte_ok (decodeGain_gainModeByte v 3 r) rest
  | pitchhFields v x p => cases henc; exact decode_pitchhByte v x p rest
  | brrFilter0 v s l e => cases henc; exact oneByte_ok (decodeBrrFilter_brrHeaderByte v s 0 l e) rest
  | brrFilter1 v s l e => cases henc; exact oneByte_ok (decodeBrrFilter_brrHeaderByte v s 1 l e) rest
  | brrFilter2 v s l e => cases henc; exact oneByte_ok (decodeBrrFilter_brrHeaderByte v s 2 l e) rest
  | brrFilter3 v s l e => cases henc; exact oneByte_ok (decodeBrrFilter_brrHeaderByte v s 3 l e) rest
  | brrShiftValid v s f l e => cases henc; exact oneByte_ok (decodeBrrShift_valid v (of_decide_eq_true hwf) f l e) rest
  | brrShiftInvalid v s f l e => cases henc; exact oneByte_ok (decodeBrrShift_invalid v (of_decide_eq_true hwf) f l e) rest
  | brrTerminator v s f => cases henc; exact oneByte_ok (decodeBrrEnd_terminator v s f) rest
  | brrEndLoop v s f => cases henc; exact oneByte_ok (decodeBrrEnd_endLoop v s f) rest
  | brrNotEnd v s f l => cases henc; exact oneByte_ok (decodeBrrEnd_notEnd v s f l) rest
  | brrData v a b => cases henc; exact decode_brrDataByte v a b rest
  | directoryEntry v start loopAddr => cases henc; exact twoWords_wordPairBytes start loopAddr _ rest
  | echoFrame left right => cases henc; exact twoWords_wordPairBytes left right _ rest
  | outputPair left right => cases henc; exact twoWords_wordPairBytes left right _ rest
  | _ => cases henc <;> rfl

end Sys2Proof

/-! PROOFS. 30_encoding.md: an accepted word is the encoding of its instruction (R110 to R129). -/

namespace Sys2Proof

/-! ### From an accepted word to its instruction -/

/-- What `EncodeOfDecode` asks of an instruction read from the bytes `code`. -/
def IsCodeOf (f : Format) (i : Instr) (code : List Byte) : Prop := wellFormed i = true ∧ encode i = some (f, code)

theorem isCodeOf_phRow : ∀ p : Fin 32, IsCodeOf .ph phRows[p] [BitVec.ofNat 8 p.val] := by
  intro p
  fin_cases p <;> exact ⟨rfl, rfl⟩

/-- Each of the 256 code bytes that names a micro-op is the code of that micro-op. -/
theorem isCodeOf_uop_of_mem : ∀ w : Fin 256, ∀ i ∈ (decodeUop w.val).toOption, IsCodeOf .uop i [BitVec.ofNat 8 w.val] := by
  unfold IsCodeOf
  decide +kernel

theorem isCodeOf_uop (w : Fin 256) (i : Instr) (h : decodeUop w.val = .ok i) : IsCodeOf .uop i [BitVec.ofNat 8 w.val] :=
  isCodeOf_uop_of_mem w i (by rw [h]; rfl)

theorem isCodeOf_regRow (acc : RegAccess) (x : Fin 8) (r : Fin 16) :
    IsCodeOf (.ra acc) (regRow acc x r) [BitVec.ofNat 8 (16 * x.val + r.val)] := by
  fin_cases x <;> fin_cases r <;> exact ⟨rfl, rfl⟩

theorem oneByte_inv {g : Byte → Except DecodeError Instr} {bytes rest : List Byte} {i : Instr}
    (h : oneByte g bytes = .ok (i, rest)) : ∃ b, bytes = b :: rest ∧ g b = .ok i := by
  cases bytes with
  | nil => cases h
  | cons b bytes =>
    rw [oneByte] at h
    cases hg : g b with
    | error e => rw [hg] at h; cases h
    | ok j => rw [hg] at h; cases h; exact ⟨b, rfl, hg⟩

theorem twoWords_inv {g : BitVec 16 → BitVec 16 → Instr} {bytes rest : List Byte} {i : Instr}
    (h : twoWords g bytes = .ok (i, rest)) : ∃ x y, bytes = wordPairBytes x y ++ rest ∧ i = g x y := by
  unfold twoWords at h
  split at h
  · next a b c d r =>
    cases h
    exact ⟨wordOfBytes a b, wordOfBytes c d, by simp [wordPairBytes], rfl⟩
  · cases h

theorem ofInt_natCast_toNat (b : Byte) : BitVec.ofInt 8 (b.toNat : Int) = b := by
  rw [BitVec.ofInt_natCast, BitVec.ofNat_toNat, BitVec.setWidth_eq]

/-- A tick count has four bytes (R127). -/
theorem bytes_of_ticks (a b c d : Byte) {n : Int} (hn : n = (a.toNat + 256 * b.toNat + 65536 * c.toNat + 16777216 * d.toNat : Nat)) :
    BitVec.ofInt 8 n = a ∧ BitVec.ofInt 8 (n / 256) = b ∧ BitVec.ofInt 8 (n / 65536) = c ∧ BitVec.ofInt 8 (n / 16777216) = d := by
  refine ⟨?_, ?_, ?_, ?_⟩ <;> (apply BitVec.eq_of_toNat_eq; rw [BitVec.toNat_ofInt]; omega)

theorem isCodeOf_writeReg (a d : Byte) : IsCodeOf .hcs (.writeReg a.toNat d.toNat) [0x57, a, d] := by
  refine ⟨?_, ?_⟩
  · simp only [wellFormed, Bool.and_eq_true, decide_eq_true_eq]
    omega
  · rw [encode, ofInt_natCast_toNat, ofInt_natCast_toNat]

theorem isCodeOf_readReg (a : Byte) : IsCodeOf .hcs (.readReg a.toNat) [0x52, a] := by
  refine ⟨by simp only [wellFormed, decide_eq_true_eq]; omega, ?_⟩
  rw [encode, ofInt_natCast_toNat]

theorem isCodeOf_aramWrite (l h d : Byte) : IsCodeOf .hcs (.aramWrite (wordOfBytes l h) d) [0x41, l, h, d] := by
  refine ⟨rfl, ?_⟩
  rw [encode, lowByte_wordOfBytes, highByte_wordOfBytes]

theorem isCodeOf_aramRead (l h : Byte) : IsCodeOf .hcs (.aramRead (wordOfBytes l h)) [0x61, l, h] := by
  refine ⟨rfl, ?_⟩
  rw [encode, lowByte_wordOfBytes, highByte_wordOfBytes]

theorem isCodeOf_run (a b c d : Byte) :
    IsCodeOf .hcs (.run (a.toNat + 256 * b.toNat + 65536 * c.toNat + 16777216 * d.toNat : Nat)) [0x4E, a, b, c, d] := by
  obtain ⟨ha, hb, hc, hd⟩ := bytes_of_ticks a b c d rfl
  refine ⟨by simp only [wellFormed, decide_eq_true_eq]; omega, ?_⟩
  rw [encode, ha, hb, hc, hd]

theorem isCodeOf_muteVoices (m : Byte) : IsCodeOf .hcs (.muteVoices m.toNat) [0x4D, m] := by
  refine ⟨by simp only [wellFormed, decide_eq_true_eq]; omega, ?_⟩
  rw [encode, ofInt_natCast_toNat]

/-- An accepted command is its own encoding (R127). -/
theorem decodeHcs_inv {bytes rest : List Byte} {i : Instr} (h : decodeHcs bytes = .ok (i, rest)) :
    ∃ code, bytes = code ++ rest ∧ IsCodeOf .hcs i code := by
  unfold decodeHcs at h
  split at h
  · cases h
  next op r =>
  have hop : ∀ n : Byte, op.toNat = n.toNat → op = n := fun n => BitVec.eq_of_toNat_eq
  split at h
  case h_1 hcode => obtain rfl := hop 0x57 hcode; cases h; exact ⟨_, rfl, isCodeOf_writeReg _ _⟩
  case h_2 hcode => obtain rfl := hop 0x52 hcode; cases h; exact ⟨_, rfl, isCodeOf_readReg _⟩
  case h_3 hcode => obtain rfl := hop 0x41 hcode; cases h; exact ⟨_, rfl, isCodeOf_aramWrite _ _ _⟩
  case h_4 hcode => obtain rfl := hop 0x61 hcode; cases h; exact ⟨_, rfl, isCodeOf_aramRead _ _⟩
  case h_5 hcode => obtain rfl := hop 0x4E hcode; cases h; exact ⟨_, rfl, isCodeOf_run _ _ _ _⟩
  case h_6 hcode => obtain rfl := hop 0x5A hcode; cases h; exact ⟨[0x5A], rfl, rfl, rfl⟩
  case h_7 hcode => obtain rfl := hop 0x4D hcode; cases h; exact ⟨_, rfl, isCodeOf_muteVoices _⟩
  case h_8 => split at h <;> cases h

/-! The byte of the fields a format reads is the byte read: the fields cover it. -/

theorem flgByte_fields (b : Byte) : flgByte (bitOf b 7) (bitOf b 6) (bitOf b 5) (b.extractLsb' 0 5) = b := by
  apply BitVec.eq_of_toNat_eq
  simp only [flgByte_toNat, bitOf_toNat, extractLsb'_toNat_eq]
  omega

theorem adsr1Byte_fields (b : Byte) : adsr1Byte (bitOf b 7) (b.extractLsb' 4 3) (b.extractLsb' 0 4) = b := by
  apply BitVec.eq_of_toNat_eq
  simp only [adsr1Byte_toNat, bitOf_toNat, extractLsb'_toNat_eq]
  omega

theorem adsr2Byte_fields (b : Byte) : adsr2Byte (b.extractLsb' 5 3) (b.extractLsb' 0 5) = b := by
  apply BitVec.eq_of_toNat_eq
  simp only [adsr2Byte_toNat, extractLsb'_toNat_eq]
  omega

theorem pitchhByte_fields (b : Byte) : pitchhByte (b.extractLsb' 6 2) (b.extractLsb' 0 6) = b := by
  apply BitVec.eq_of_toNat_eq
  simp only [pitchhByte_toNat, extractLsb'_toNat_eq]
  omega

theorem brrDataByte_fields (b : Byte) : brrDataByte (b.extractLsb' 4 4) (b.extractLsb' 0 4) = b := by
  apply BitVec.eq_of_toNat_eq
  simp only [brrDataByte_toNat, extractLsb'_toNat_eq]
  omega

/-- A header from its fields, of which some may be known by value (R121). -/
theorem brrHeaderByte_eq {b : Byte} {s : BitVec 4} {f : BitVec 2} {l e : Bool}
    (h : s.toNat * 16 + f.toNat * 4 + l.toNat * 2 + e.toNat = b.toNat) : brrHeaderByte s f l e = b :=
  BitVec.eq_of_toNat_eq ((brrHeaderByte_toNat s f l e).trans h)

theorem isCodeOf_decodeGain (v : VoiceId) (b : Byte) : IsCodeOf (.gain v) (decodeGain v b) [b] := by
  have hmode : ∀ mode : BitVec 2, b.toNat / 32 = 4 + mode.toNat → gainModeByte mode (b.extractLsb' 0 5) = b := fun mode h => by
    apply BitVec.eq_of_toNat_eq
    rw [gainModeByte_toNat, extractLsb'_toNat_eq]
    omega
  unfold decodeGain
  split
  case h_1 h => exact ⟨rfl, by rw [encode, hmode 0 h]⟩
  case h_2 h => exact ⟨rfl, by rw [encode, hmode 1 h]⟩
  case h_3 h => exact ⟨rfl, by rw [encode, hmode 2 h]⟩
  case h_4 h => exact ⟨rfl, by rw [encode, hmode 3 h]⟩
  case h_5 h4 h5 h6 h7 =>
    rw [imp_false] at h4 h5 h6 h7
    have hdirect : gainDirectByte (b.extractLsb' 0 7) = b := by
      apply BitVec.eq_of_toNat_eq
      rw [gainDirectByte_toNat, extractLsb'_toNat_eq]
      omega
    exact ⟨rfl, by rw [encode, hdirect]⟩

theorem isCodeOf_decodeBrrFilter (v : VoiceId) (b : Byte) : IsCodeOf (.brrFilter v) (decodeBrrFilter v b) [b] := by
  have hfilter : ∀ f : BitVec 2, b.toNat / 4 % 4 = f.toNat → brrHeaderByte (b.extractLsb' 4 4) f (bitOf b 1) (bitOf b 0) = b :=
    fun f h => brrHeaderByte_eq (by rw [extractLsb'_toNat_eq, bitOf_toNat, bitOf_toNat]; omega)
  unfold decodeBrrFilter
  split
  case h_1 h => exact ⟨rfl, by rw [encode, hfilter 0 h]⟩
  case h_2 h => exact ⟨rfl, by rw [encode, hfilter 1 h]⟩
  case h_3 h => exact ⟨rfl, by rw [encode, hfilter 2 h]⟩
  case h_4 h0 h1 h2 =>
    rw [imp_false] at h0 h1 h2
    exact ⟨rfl, by rw [encode, hfilter 3 (show _ = 3 by omega)]⟩

theorem isCodeOf_decodeBrrShift (v : VoiceId) (b : Byte) : IsCodeOf (.brrShift v) (decodeBrrShift v b) [b] := by
  unfold decodeBrrShift
  split
  · next h =>
    have hs : (b.extractLsb' 4 4).toNat ≤ 12 := by rw [extractLsb'_toNat_eq]; omega
    have hb : brrHeaderByte (b.extractLsb' 4 4) (b.extractLsb' 2 2) (bitOf b 1) (bitOf b 0) = b :=
      brrHeaderByte_eq (by simp only [extractLsb'_toNat_eq, bitOf_toNat]; omega)
    exact ⟨decide_eq_true hs, by rw [encode, hb]⟩
  · next h =>
    have hs : b.extractLsb' 4 2 ≠ 0 := fun h0 => by
      have := extractLsb'_toNat_eq b 4 2
      rw [h0] at this
      have hz : (0 : BitVec 2).toNat = 0 := rfl
      omega
    have hb : brrHeaderByte (invalidShift (b.extractLsb' 4 2)) (b.extractLsb' 2 2) (bitOf b 1) (bitOf b 0) = b :=
      brrHeaderByte_eq (by simp only [invalidShift_toNat, extractLsb'_toNat_eq, bitOf_toNat]; omega)
    exact ⟨decide_eq_true hs, by rw [encode, hb]⟩

theorem isCodeOf_decodeBrrEnd (v : VoiceId) (b : Byte) : IsCodeOf (.brrEnd v) (decodeBrrEnd v b) [b] := by
  have hflags : ∀ l e : Bool, b.toNat % 4 = l.toNat * 2 + e.toNat → brrHeaderByte (b.extractLsb' 4 4) (b.extractLsb' 2 2) l e = b :=
    fun l e h => brrHeaderByte_eq (by rw [extractLsb'_toNat_eq, extractLsb'_toNat_eq]; omega)
  unfold decodeBrrEnd
  split
  case h_1 h => exact ⟨rfl, by rw [encode, hflags false true h]⟩
  case h_2 h => exact ⟨rfl, by rw [encode, hflags true true h]⟩
  case h_3 h1 h3 =>
    rw [imp_false] at h1 h3
    have hnot : b.toNat % 4 = (bitOf b 1).toNat * 2 + false.toNat := by
      rw [bitOf_toNat, Bool.toNat_false]
      omega
    exact ⟨rfl, by rw [encode, hflags _ _ hnot]⟩

/-- A one-byte format whose every byte has an instruction of that code. -/
theorem isCodeOf_of_oneByte {f : Format} {g : Byte → Instr} (hg : ∀ b, IsCodeOf f (g b) [b]) {bytes rest : List Byte} {i : Instr}
    (h : oneByte (fun b => .ok (g b)) bytes = .ok (i, rest)) : ∃ code, bytes = code ++ rest ∧ IsCodeOf f i code := by
  obtain ⟨b, rfl, hb⟩ := oneByte_inv h
  cases hb
  exact ⟨[b], rfl, hg b⟩

theorem isCodeOf_of_twoWords {f : Format} {g : BitVec 16 → BitVec 16 → Instr} (hg : ∀ x y, IsCodeOf f (g x y) (wordPairBytes x y))
    {bytes rest : List Byte} {i : Instr} (h : twoWords g bytes = .ok (i, rest)) :
    ∃ code, bytes = code ++ rest ∧ IsCodeOf f i code := by
  obtain ⟨x, y, rfl, rfl⟩ := twoWords_inv h
  exact ⟨_, rfl, hg x y⟩

/-- A register address byte an access takes is the code of its register (R111). -/
theorem isCodeOf_decodeRa {acc : RegAccess} {b : Byte} {i : Instr} (h : decodeRa acc b = .ok i) : IsCodeOf (.ra acc) i [b] := by
  unfold decodeRa at h
  split at h
  · next hb =>
    cases h
    have hcode := isCodeOf_regRow acc ⟨b.toNat / 16, by omega⟩ ⟨b.toNat % 16, by omega⟩
    have hbyte : BitVec.ofNat 8 (16 * (b.toNat / 16) + b.toNat % 16) = b := by
      rw [Nat.div_add_mod, BitVec.ofNat_toNat, BitVec.setWidth_eq]
    rwa [hbyte] at hcode
  · cases h

/-- Settles O3: per format, the byte of the fields read is the byte read. -/
theorem encodeOfDecode : Obligations.EncodeOfDecode := by
  suffices h : ∀ (i : Instr) (f : Format) (bytes rest : List Byte),
      decode f bytes = .ok (i, rest) → ∃ code, bytes = code ++ rest ∧ IsCodeOf f i code by
    intro i f bytes rest hdec
    obtain ⟨code, hbytes, hwf, henc⟩ := h i f bytes rest hdec
    exact ⟨hwf, code, henc, hbytes⟩
  intro i f bytes rest h
  cases f with
  | ph =>
    obtain ⟨b, rfl, hb⟩ := oneByte_inv h
    unfold decodePh at hb
    split at hb
    · next hlt =>
      cases hb
      have hcode := isCodeOf_phRow ⟨b.toNat, hlt⟩
      rw [BitVec.ofNat_toNat, BitVec.setWidth_eq] at hcode
      exact ⟨[b], rfl, hcode⟩
    · cases hb
  | uop =>
    obtain ⟨b, rfl, hb⟩ := oneByte_inv h
    have hcode := isCodeOf_uop ⟨b.toNat, b.isLt⟩ i hb
    rw [BitVec.ofNat_toNat, BitVec.setWidth_eq] at hcode
    exact ⟨[b], rfl, hcode⟩
  | hcs => exact decodeHcs_inv h
  | ra acc =>
    obtain ⟨b, rfl, hb⟩ := oneByte_inv h
    exact ⟨[b], rfl, isCodeOf_decodeRa hb⟩
  | flg => exact isCodeOf_of_oneByte (fun b => ⟨rfl, by rw [encode, flgByte_fields]⟩) h
  | adsr1 v => exact isCodeOf_of_oneByte (fun b => ⟨rfl, by rw [encode, adsr1Byte_fields]⟩) h
  | adsr2 v => exact isCodeOf_of_oneByte (fun b => ⟨rfl, by rw [encode, adsr2Byte_fields]⟩) h
  | gain v => exact isCodeOf_of_oneByte (isCodeOf_decodeGain v) h
  | pitchh v => exact isCodeOf_of_oneByte (fun b => ⟨rfl, by rw [encode, pitchhByte_fields]⟩) h
  | brrFilter v => exact isCodeOf_of_oneByte (isCodeOf_decodeBrrFilter v) h
  | brrShift v => exact isCodeOf_of_oneByte (isCodeOf_decodeBrrShift v) h
  | brrEnd v => exact isCodeOf_of_oneByte (isCodeOf_decodeBrrEnd v) h
  | brrData v => exact isCodeOf_of_oneByte (fun b => ⟨rfl, by rw [encode, brrDataByte_fields]⟩) h
  | directoryEntry v => exact isCodeOf_of_twoWords (fun _ _ => ⟨rfl, rfl⟩) h
  | echoFrame => exact isCodeOf_of_twoWords (fun _ _ => ⟨rfl, rfl⟩) h
  | outputPair => exact isCodeOf_of_twoWords (fun _ _ => ⟨rfl, rfl⟩) h

end Sys2Proof

/-! PROOFS. 30_encoding.md and 47_host_interface.md: the rejected words (R110, R127), and what a step runs (R124, R127, R360, R373). -/

namespace Sys2Proof

/-! ### Rejected words -/

/-- A command whose bytes end inside it (R127). -/
theorem decodeHcs_truncated {b : Byte} {n : Nat} {rest : List Byte}
    (hb : (b, n) ∈ ([(0x57, 2), (0x52, 1), (0x41, 3), (0x61, 2), (0x4E, 4), (0x4D, 1)] : List (Byte × Nat)))
    (hrest : rest.length < n) : decodeHcs (b :: rest) = .error .truncated := by
  simp only [List.mem_cons, Prod.mk.injEq, List.not_mem_nil, or_false] at hb
  rcases hb with ⟨rfl, rfl⟩ | ⟨rfl, rfl⟩ | ⟨rfl, rfl⟩ | ⟨rfl, rfl⟩ | ⟨rfl, rfl⟩ | ⟨rfl, rfl⟩
  · match rest with
    | [] | [_] => rfl
  · match rest with
    | [] => rfl
  · match rest with
    | [] | [_] | [_, _] => rfl
  · match rest with
    | [] | [_] => rfl
  · match rest with
    | [] | [_] | [_, _] | [_, _, _] => rfl
  · match rest with
    | [] => rfl

/-- A first byte that is none of the seven commands (R127). -/
theorem decodeHcs_notACommand {b : Byte} (hb : b ∉ ([0x57, 0x52, 0x41, 0x61, 0x4E, 0x5A, 0x4D] : List Byte)) (rest : List Byte) :
    decodeHcs (b :: rest) = .error .notACommand := by
  have hne : ∀ n ∈ ([0x57, 0x52, 0x41, 0x61, 0x4E, 0x5A, 0x4D] : List Byte), b.toNat ≠ n.toNat :=
    fun n hn h => hb (BitVec.eq_of_toNat_eq h ▸ hn)
  simp only [List.forall_mem_cons, List.not_mem_nil, false_implies, implies_true, and_true] at hne
  obtain ⟨h57, h52, h41, h61, h4E, h5A, h4D⟩ := hne
  unfold decodeHcs
  split
  · contradiction
  next op r hcons =>
  cases hcons
  split
  case h_1 h => exact absurd h h57
  case h_2 h => exact absurd h h52
  case h_3 h => exact absurd h h41
  case h_4 h => exact absurd h h61
  case h_5 h => exact absurd h h4E
  case h_6 h => exact absurd h h5A
  case h_7 h => exact absurd h h4D
  case h_8 => exact if_neg (by simp only [not_or]; exact ⟨h57, h52, h41, h61, h4E, h4D⟩)

/-- Settles O4: each clause is one branch of its format's decoder. -/
theorem wordsRejected : Obligations.WordsRejected := by
  refine ⟨fun b n rest hb hrest => decodeHcs_truncated hb hrest, fun b rest hb => decodeHcs_notACommand hb rest,
    fun b rest hb => ?_, fun acc b rest hb => ?_, fun f => ?_⟩
  · rw [decode, oneByte, decodePh, dif_neg (Nat.not_lt.mpr hb), Except.map]
  · rw [decode, oneByte, decodeRa, dif_neg (Nat.not_lt.mpr hb), Except.map]
  · cases f <;> rfl

/-- Settles O1: each word is read field by field. -/
theorem writtenWordsDecode : Obligations.WrittenWordsDecode :=
  ⟨rfl, rfl, rfl, rfl, rfl, rfl, rfl, rfl, rfl, rfl, rfl⟩

end Sys2Proof

namespace Sys2Proof.Machine

/-! ### The step -/

theorem step_of_issued {s : State} {i : HostOp} {ops : List HostOp} (h : s.issued = i :: ops) :
    step s = exec i.val { s with issued := ops } := by
  rw [step, h]

theorem step_of_bytes {s : State} (h : s.issued = []) (hb : s.hostBytes ≠ []) : step s = hostStep s := by
  obtain ⟨b, bytes, hbytes⟩ := List.exists_cons_of_ne_nil hb
  rw [step, h, hbytes]

theorem step_of_idle {s : State} (h : s.issued = []) (hb : s.hostBytes = []) : step s = .next s := by
  rw [step, h, hb]

/-- A stream that decodes to its end starts with a command (R127). -/
theorem exists_decodeHcs_of_decodeStream {bytes : List Byte} {is : List Instr} (hb : bytes ≠ [])
    (h : decodeStream bytes = .ok is) : ∃ i rest, decodeHcs bytes = .ok (i, rest) := by
  obtain ⟨b, tail, rfl⟩ := List.exists_cons_of_ne_nil hb
  rw [decodeStream, List.length_cons] at h
  unfold decodeStreamFuel at h
  cases hdec : decodeHcs (b :: tail) with
  | ok r => exact ⟨r.1, r.2, rfl⟩
  | error e => rw [hdec] at h; cases h

theorem hostStep_of_ok {s : State} {is : List Instr} {i : Instr} {rest : List Byte} (h : decodeStream s.hostBytes = .ok is)
    (hdec : decodeHcs s.hostBytes = .ok (i, rest)) : hostStep s = exec i { s with hostBytes := rest } := by
  rw [hostStep, h, hdec]

theorem hostStep_of_error {s : State} {e : DecodeError} (h : decodeStream s.hostBytes = .error e) :
    hostStep s = .refused .malformedHostStream := by
  rw [hostStep, h]

/-! ### Which instructions the Host issues -/

/-- A command of the stream is an operation of the Host (R127, R373). -/
theorem hostOperation_of_decodeHcs {bytes rest : List Byte} {i : Instr} (h : decodeHcs bytes = .ok (i, rest)) :
    hostOperation i = true := by
  unfold decodeHcs at h
  split at h
  · cases h
  · split at h
    case h_8 => split at h <;> cases h
    all_goals cases h; rfl

theorem hostOperation_phaseInstr (p : Fin 32) : hostOperation (phaseInstr p) = false := by
  fin_cases p <;> rfl

theorem hostOperation_microInstr (op : MicroOp) : hostOperation (microInstr op) = false := by
  cases op with
  | v1 v | v2 v | v3a v | v3b v | v3c v | v4 v | v5 v | v6 v | v7 v | v8 v | v9 v => fin_cases v <;> rfl
  | _ => rfl

/-- The formats whose words the Host issues: its commands, an output pair, a register access (R373). -/
theorem format_of_hostOperation {i : Instr} {f : Format} {code : List Byte} (h : encode i = some (f, code))
    (hi : hostOperation i = true) : f = .hcs ∨ f = .outputPair ∨ ∃ acc, f = .ra acc := by
  cases i with
  | writeReg _ _ | readReg _ | aramWrite _ _ | aramRead _ | run _ | reset | muteVoices _ => cases h; exact .inl rfl
  | outputPair _ _ => cases h; exact .inr (.inl rfl)
  | voll _ acc | volr _ acc | pitchl _ acc | pitchh _ acc | srcn _ acc | adsr1 _ acc | adsr2 _ acc | gain _ acc | envx _ acc
  | outx _ acc | unusedA _ acc | unusedB _ acc | unusedE _ acc | fir _ acc | mvoll acc | mvolr acc | evoll acc | evolr acc
  | kon acc | koff acc | flg acc | endx acc | efb acc | unused1D acc | pmon acc | non acc | eon acc | dir acc | esa acc
  | edl acc => cases h; exact .inr (.inr ⟨acc, rfl⟩)
  | frames _ | init | pitch _ _ | keyOn _ | keyOff _ | dirEnt _ _ _ _ | brrBlock _ _ | construct _ | copyState _
  | resamplerConstruct _ | push _ | readSamples _ | setTimeRatio _ | getTimeRatio | available | clear | resize _
  | cacheSilence => cases h
  | _ => cases hi

/-- A tick is the row its phase word decodes to (R124, R161). -/
theorem decode_phaseWord (p : Fin 32) : decode .ph [BitVec.ofNat 8 p.val] = .ok (phaseInstr p, []) := by
  fin_cases p <;> rfl

/-- Settles O5: the step's three branches, the tick's row, and the formats the Host's operations have. -/
theorem stepRunsTheDecodedInstruction : Obligations.StepRunsTheDecodedInstruction := by
  refine ⟨fun s i ops h => step_of_issued h, fun s is i rest h hb hs hdec => ?_, fun s h hb => step_of_idle h hb,
    fun s i hdec => ?_, fun bytes i rest h => hostOperation_of_decodeHcs h, hostOperation_phaseInstr, hostOperation_microInstr,
    fun f bytes i rest hdec hi => ?_⟩
  · rw [step_of_bytes h hb, hostStep_of_ok hs hdec]
  · rw [decode_phaseWord] at hdec
    cases hdec
    exact (exec_run_natCast 1 s).trans (exec_phaseInstr s.dsp.phase s).symm
  · obtain ⟨-, code, henc, -⟩ := encodeOfDecode i f bytes rest hdec
    exact format_of_hostOperation henc hi

/-- Settles O6: with nothing issued by name the step reads the stream, and an empty one does not decode to an error. -/
theorem malformedStreamRefused : Obligations.MalformedStreamRefused := by
  intro s e h herr
  have hb : s.hostBytes ≠ [] := fun hnil => by
    rw [hnil] at herr
    cases herr
  rw [step_of_bytes h hb, hostStep_of_error herr]

end Sys2Proof.Machine

/-! PROOFS. What the answer of any instruction can be (10_state.md R68, R69; 60_exceptions.md R390), and what follows of it for every
step and every run. -/

namespace Sys2Proof.Machine

/-! ### The families of instructions -/

/-- Every instruction whose format is a table of rows has the form its row's encoding admits: none has an operand to check. -/
theorem wellFormed_of_encode {i : Instr} {f : Format} {code : List Byte} (h : encode i = some (f, code))
    (hf : f = .ph ∨ f = .uop ∨ ∃ acc, f = .ra acc) : wellFormed i = true := by
  cases i with
  | writeReg _ _ | readReg _ | run _ | muteVoices _ | frames _ | construct _ | brrShiftValid _ _ _ _ _
  | brrShiftInvalid _ _ _ _ _ => cases h <;> simp at hf
  | _ => rfl

/-- The micro-op instances of the encoding's table are the micro-ops of the phase table (R162). -/
theorem uopRows_eq : uopRows = phaseTable.toList.map (List.map microInstr) := rfl

theorem exists_microInstr_of_decodeUop {w : Nat} {i : Instr} (h : decodeUop w = .ok i) : ∃ op, i = microInstr op := by
  unfold decodeUop at h
  split at h
  · next j hj =>
    cases h
    have hrow : i ∈ uopRows.getD (w % 32) [] := List.mem_of_getElem? hj
    rw [List.getD_eq_getElem?_getD, uopRows_eq, List.getElem?_map] at hrow
    cases hops : phaseTable.toList[w % 32]? with
    | none => rw [hops] at hrow; cases hrow
    | some ops =>
      rw [hops] at hrow
      obtain ⟨op, -, hop⟩ := List.mem_map.mp hrow
      exact ⟨op, hop.symm⟩
  · cases h

/-- An instruction is a row of the phase table, a micro-op, an access to a register address, or none of the three (R13). -/
theorem instr_family (i : Instr) : (∃ p, i = phaseInstr p) ∨ (∃ op, i = microInstr op) ∨ (∃ acc x r, i = regRow acc x r) ∨
    ∀ f code, encode i = some (f, code) → f ≠ .ph ∧ f ≠ .uop ∧ ∀ acc, f ≠ .ra acc := by
  by_cases hnone : ∀ f code, encode i = some (f, code) → f ≠ .ph ∧ f ≠ .uop ∧ ∀ acc, f ≠ .ra acc
  · exact .inr (.inr (.inr hnone))
  · push Not at hnone
    obtain ⟨f, code, henc, hf⟩ := hnone
    have hf' : f = .ph ∨ f = .uop ∨ ∃ acc, f = .ra acc := by tauto
    have hdec := decodeOfEncode i f code [] (wellFormed_of_encode henc hf') henc
    rcases hf' with rfl | rfl | ⟨acc, rfl⟩
    · obtain ⟨b, -, hb⟩ := oneByte_inv hdec
      unfold decodePh at hb
      split at hb
      · next hlt => cases hb; exact .inl ⟨⟨b.toNat, hlt⟩, rfl⟩
      · cases hb
    · obtain ⟨b, -, hb⟩ := oneByte_inv hdec
      exact .inr (.inl (exists_microInstr_of_decodeUop hb))
    · obtain ⟨b, -, hb⟩ := oneByte_inv hdec
      unfold decodeRa at hb
      split at hb
      · cases hb; exact .inr (.inr (.inl ⟨acc, _, _, rfl⟩))
      · cases hb

/-! ### What the operations keep -/

/-- What an operation keeps that does not restart the DSP: the parameters (R68), the invariant (R69), the pairs already emitted (R58). -/
structure Kept (s t : State) : Prop where
  params : t.params = s.params
  inv : s.Inv → t.Inv
  out : s.out <+: t.out

theorem Kept.refl (s : State) : Kept s s := ⟨rfl, id, List.prefix_rfl⟩

theorem Kept.trans {s t u : State} (h : Kept s t) (h' : Kept t u) : Kept s u :=
  ⟨h'.params.trans h.params, h'.inv ∘ h.inv, h.out.trans h'.out⟩

theorem kept_foldl {α : Type} {f : State → α → State} (h : ∀ s a, Kept s (f s a)) (l : List α) (s : State) : Kept s (l.foldl f s) := by
  induction l generalizing s with
  | nil => exact Kept.refl s
  | cons a l ih => exact (h s a).trans (ih (f s a))

theorem kept_report (s : State) (r : HostResult) : Kept s (s.report r) := ⟨rfl, id, List.prefix_rfl⟩

theorem kept_mapDsp (s : State) {g : Dsp → Dsp} (hg : s.dsp.Wf → (g s.dsp).Wf) : Kept s (s.mapDsp g) :=
  ⟨rfl, fun ⟨hp, hd, ha, hr⟩ => ⟨hp, hg hd, ha, hr⟩, List.prefix_rfl⟩

theorem kept_resampler (s : State) {r : Resampler} (h : s.resampler.Wf → r.Wf) : Kept s { s with resampler := r } :=
  ⟨rfl, fun ⟨hp, hd, ha, hr⟩ => ⟨hp, hd, ha, h hr⟩, List.prefix_rfl⟩

theorem kept_storeAram (a : Addr) (b : Byte) (s : State) : Kept s (storeAram a b s) :=
  ⟨rfl, fun ⟨hp, hd, ha, hr⟩ => ⟨hp, hd, memWrite_wf ha a b, hr⟩, List.prefix_rfl⟩

theorem kept_accessRegister (a : RegAddr) (acc : RegAccess) (s : State) : Kept s (accessRegister a acc s) := by
  cases acc with
  | read => exact kept_report s _
  | write b => exact kept_mapDsp s (g := fun d => d.writeRegister a b) (fun h => Dsp.wf_writeRegister h a b)

theorem runMicroOp_out (op : MicroOp) (s : State) : s.out <+: (runMicroOp op s).out := by
  cases op with
  | e27 => exact List.prefix_append _ _
  | _ => exact List.prefix_rfl

theorem kept_runMicroOp (op : MicroOp) (s : State) : Kept s (runMicroOp op s) := by
  have hhost := runMicroOp_sameHost op s
  refine ⟨hhost.params, fun ⟨hp, hd, ha, hr⟩ => ⟨?_, runMicroOp_wf hd op, runMicroOp_aram_wf ha op, ?_⟩, runMicroOp_out op s⟩
  · rwa [hhost.params]
  · rwa [hhost.resampler]

theorem kept_phaseStep (p : Fin 32) (s : State) : Kept s (phaseStep p s) :=
  (runRow_keeps (P := Kept s) (fun op t ht => ht.trans (kept_runMicroOp op t)) p (Kept.refl s)).trans (kept_mapDsp _ id)

theorem kept_runTicks (n : Nat) (s : State) : Kept s (runTicks n s) :=
  runTicks_keeps (P := Kept s) (fun t ht => ht.trans (kept_phaseStep _ t)) n (Kept.refl s)

/-- `Reset` keeps the parameters and the invariant, and drops the output (R420). -/
theorem resetDsp_inv {s : State} (h : s.Inv) : (resetDsp s).Inv := by
  obtain ⟨hp, hd, ha, hr⟩ := h
  exact ⟨hp, Dsp.wf_reset _ _, ha, hr⟩

/-! ### What an instruction answers -/

/-- The operations that drop the output (R420, R424, R361). -/
def ClearsOutput (i : Instr) : Prop := i = .reset ∨ i = .init ∨ ∃ a, i = .construct a

/-- What `exec i s` can be: a next state that keeps the parameters, the invariant and, but for the three operations that reset, the
output; or the refusal of a `CopyState` load (entry 9). -/
def Answers (i : Instr) (s : State) : Result → Prop
  | .next t => t.params = s.params ∧ (s.Inv → t.Inv) ∧ (s.out <+: t.out ∨ ClearsOutput i)
  | .fault _ => False
  | .refused r => r = .foreignStateBytes ∧ ∃ d, i = .copyState (.load d) ∧ ¬ d.Wf

theorem answers_of_kept {i : Instr} {s t : State} (h : Kept s t) : Answers i s (.next t) := ⟨h.params, h.inv, .inl h.out⟩

theorem answers_of_clears {i : Instr} {s t : State} (hi : ClearsOutput i) (hp : t.params = s.params) (h : s.Inv → t.Inv) :
    Answers i s (.next t) := ⟨hp, h, .inr hi⟩

theorem answers_raiseFault (i : Instr) (code : FaultCode) (s : State) : Answers i s (raiseFault code s) :=
  answers_of_kept (kept_report s _)

theorem answers_hostRegister (i : Instr) (addr : Int) (acc : RegAccess) (s : State) : Answers i s (hostRegister addr acc s) := by
  unfold hostRegister
  split
  · exact answers_of_kept (kept_accessRegister _ acc s)
  · exact answers_raiseFault i _ s

theorem answers_construct (image : Option AramImage) (s : State) :
    Answers (.construct image) s (execConstruct image s) := by
  have hclears : ClearsOutput (.construct image) := .inr (.inr ⟨image, rfl⟩)
  cases image with
  | none => exact answers_raiseFault _ _ s
  | some a =>
    simp only [execConstruct]
    split
    · exact answers_of_clears hclears rfl (fun ⟨hp, hd, ha, hr⟩ => resetDsp_inv ⟨hp, hd, memOfCells_wf a.cells, hr⟩)
    · exact answers_raiseFault _ _ s

theorem answers_copyState (dir : CopyDir) (s : State) : Answers (.copyState dir) s (execCopyState dir s) := by
  cases dir with
  | save => exact answers_of_kept (kept_report s _)
  | load d =>
    simp only [execCopyState]
    split
    · next h => exact answers_of_kept (kept_mapDsp s (g := fun _ => d) (fun _ => h))
    · next h => exact ⟨rfl, d, rfl, h⟩

theorem answers_init (s : State) : Answers .init s (execInit s) := by
  have hstores := kept_foldl (fun (s : State) (a : RegAddr) => kept_accessRegister a (.write 0) s) (List.finRange 128) (resetDsp s)
  have hflg := kept_accessRegister 0x6C (.write 0x20) ((List.finRange 128).foldl (fun s a => storeRegister a 0 s) (resetDsp s))
  have hkept := hstores.trans hflg
  exact answers_of_clears (.inr (.inl rfl)) hkept.params (hkept.inv ∘ resetDsp_inv)

theorem kept_pushed (bytes : List Byte) (s : State) :
    Kept s ({ s with resampler := s.resampler.push bytes }.report (.accepted (s.resampler.fits bytes))) :=
  (kept_resampler s (fun h => Resampler.push_wf h bytes)).trans (kept_report _ _)

theorem Resampler.Wf.step_pos {r : Resampler} (h : r.Wf) : 0 < r.step := h.2.2.1

theorem kept_envelopeWith (v : VoiceId) (r : Fin 16) (b : Byte) (s : State) : Kept s (envelopeWith v r b s) :=
  kept_mapDsp s (fun h => envelopeRun_wf (Dsp.wf_writeRegister h _ b) s.params v)

theorem kept_decodeWith (v : VoiceId) (header : Byte) (s : State) : Kept s (decodeWith v header s) :=
  kept_mapDsp s (fun h => decodeGroup_wf (d := { s.dsp with tBrrHeader := header }) h s.aram v)

theorem kept_advanceWith (v : VoiceId) (header : Byte) (s : State) : Kept s (advanceWith v header s) :=
  kept_mapDsp s (fun h => blockAdvance_wf (d := { s.dsp with tBrrHeader := header }) h v)

/-- What any instruction answers, family by family. -/
theorem exec_answers (i : Instr) (s : State) : Answers i s (exec i s) := by
  rcases instr_family i with ⟨p, rfl⟩ | ⟨op, rfl⟩ | ⟨acc, x, r, rfl⟩ | hother
  · rw [exec_phaseInstr]
    exact answers_of_kept (kept_phaseStep p s)
  · rw [exec_microInstr]
    exact answers_of_kept (kept_runMicroOp op s)
  · rw [exec_regRow]
    exact answers_of_kept (kept_accessRegister _ acc s)
  cases i with
  -- the Host's operations on the DSP and ARAM
  | writeReg addr data =>
    show Answers _ s (execWriteReg addr data s)
    unfold execWriteReg
    split
    · exact answers_hostRegister _ addr _ s
    · exact answers_raiseFault _ _ s
  | readReg addr => exact answers_hostRegister _ addr .read s
  | aramWrite a b => exact answers_of_kept (kept_storeAram a b s)
  | aramRead a => exact answers_of_kept (kept_report s _)
  | run ticks =>
    show Answers _ s (execRun ticks s)
    unfold execRun
    split
    · exact answers_raiseFault _ _ s
    · exact answers_of_kept (kept_runTicks _ s)
  | reset => exact answers_of_clears (.inl rfl) rfl resetDsp_inv
  | muteVoices mask => exact answers_of_kept (kept_mapDsp s id)
  | frames k => exact answers_of_kept (kept_runTicks (32 * k) s)
  | init => exact answers_init s
  | pitch v p => exact answers_of_kept ((kept_accessRegister (vreg v 2) (.write (lowByte p)) s).trans (kept_accessRegister _ _ _))
  | keyOn mm => exact answers_of_kept (kept_accessRegister 0x4C (.write mm) s)
  | keyOff mm => exact answers_of_kept (kept_accessRegister 0x5C (.write mm) s)
  | dirEnt pp nn ssss llll =>
    exact answers_of_kept ((((kept_storeAram _ _ s).trans (kept_storeAram _ _ _)).trans (kept_storeAram _ _ _)).trans
      (kept_storeAram _ _ _))
  | brrBlock aaaa block => exact answers_of_kept (kept_foldl (fun s k => kept_storeAram _ _ s) _ s)
  | construct image => exact answers_construct image s
  | copyState dir => exact answers_copyState dir s
  -- the resampler
  | resamplerConstruct n =>
    show Answers _ s (execResamplerConstruct n s)
    unfold execResamplerConstruct
    split
    · exact answers_raiseFault _ _ s
    · exact answers_of_kept (kept_resampler s (fun _ => Resampler.fresh_wf _))
  | push bytes => exact answers_of_kept (kept_pushed bytes s)
  | outputPair left right => exact answers_of_kept (kept_pushed (wordPairBytes left right) s)
  | readSamples n => exact answers_of_kept ((kept_resampler s (fun h => Resampler.read_wf h n)).trans (kept_report _ _))
  | setTimeRatio q =>
    show Answers _ s (execSetTimeRatio q s)
    unfold execSetTimeRatio
    split
    · exact answers_raiseFault _ _ s
    · next hq => exact answers_of_kept (kept_resampler s (fun _ => Resampler.setRatio_wf _ (lt_of_not_ge hq)))
  | getTimeRatio => exact answers_of_kept (kept_report s _)
  | available => exact answers_of_kept (kept_report s _)
  | clear => exact answers_of_kept (kept_resampler s (fun h => Resampler.clear_wf h.step_pos))
  | resize n =>
    show Answers _ s (execResize n s)
    unfold execResize
    split
    · exact answers_raiseFault _ _ s
    · exact answers_of_kept (kept_resampler s (fun h => Resampler.resize_wf h.step_pos _))
  | cacheSilence => exact answers_of_kept (kept_resampler s (fun h => Resampler.cacheSilence_wf h.step_pos))
  -- the data words
  | flgFields r m e n => exact answers_of_kept (kept_mapDsp s (fun h => Dsp.wf_writeRegister h _ _))
  | adsr1Fields v e d a =>
    exact answers_of_kept (kept_mapDsp s (fun h => envelopeRun_wf (d := { s.dsp with tAdsr0 := adsr1Byte e d a }) h s.params v))
  | adsr2Fields v l r => exact answers_of_kept (kept_envelopeWith v 6 (adsr2Byte l r) s)
  | gainDirect v level => exact answers_of_kept (kept_envelopeWith v 7 (gainDirectByte level) s)
  | gainLinearDecrease v r => exact answers_of_kept (kept_envelopeWith v 7 (gainModeByte 0 r) s)
  | gainExponentialDecrease v r => exact answers_of_kept (kept_envelopeWith v 7 (gainModeByte 1 r) s)
  | gainLinearIncrease v r => exact answers_of_kept (kept_envelopeWith v 7 (gainModeByte 2 r) s)
  | gainTwoSlopeIncrease v r => exact answers_of_kept (kept_envelopeWith v 7 (gainModeByte 3 r) s)
  | pitchhFields v x p => exact answers_of_kept (kept_mapDsp s (fun h => opV3a_wf (Dsp.wf_writeRegister h _ _) v))
  | brrFilter0 v sh l e => exact answers_of_kept (kept_decodeWith v (brrHeaderByte sh 0 l e) s)
  | brrFilter1 v sh l e => exact answers_of_kept (kept_decodeWith v (brrHeaderByte sh 1 l e) s)
  | brrFilter2 v sh l e => exact answers_of_kept (kept_decodeWith v (brrHeaderByte sh 2 l e) s)
  | brrFilter3 v sh l e => exact answers_of_kept (kept_decodeWith v (brrHeaderByte sh 3 l e) s)
  | brrShiftValid v sh f l e => exact answers_of_kept (kept_decodeWith v (brrHeaderByte sh f l e) s)
  | brrShiftInvalid v sh f l e => exact answers_of_kept (kept_decodeWith v (brrHeaderByte (invalidShift sh) f l e) s)
  | brrTerminator v sh f =>
    exact answers_of_kept (kept_mapDsp s (fun h => forceRelease_wf (d := { s.dsp with tBrrHeader := brrHeaderByte sh f false true }) h v))
  | brrEndLoop v sh f => exact answers_of_kept (kept_advanceWith v (brrHeaderByte sh f true true) s)
  | brrNotEnd v sh f l => exact answers_of_kept (kept_advanceWith v (brrHeaderByte sh f l false) s)
  | brrData v a b =>
    exact answers_of_kept (kept_mapDsp s (fun h => decodeGroup_wf (d := { s.dsp with tBrrByte := brrDataByte a b }) h s.aram v))
  | directoryEntry v start loopAddr => exact answers_of_kept (kept_mapDsp s id)
  | echoFrame left right =>
    exact answers_of_kept (kept_mapDsp s (fun h => Dsp.wf_echoHist h _ ⟨halved_range left, halved_range right⟩))
  -- the rows, the micro-ops and the register addresses have a code in their own format
  | _ => exact absurd (hother _ _ rfl) (by simp)

/-! ### Every step and every run -/

/-- Settles O55: whatever completes keeps the parameters. -/
theorem noInstructionChangesTheParameters : Obligations.NoInstructionChangesTheParameters := by
  intro i s t h
  have hans := exec_answers i s
  rw [h] at hans
  exact hans.1

/-- Settles O56: the output grows, or the instruction is one of the three. -/
theorem outputIsNeverDropped : Obligations.OutputIsNeverDropped := by
  intro i s t h hreset hinit hconstruct
  have hans := exec_answers i s
  rw [h] at hans
  obtain ⟨-, -, hout | hi | hi | ⟨a, hi⟩⟩ := hans
  · exact hout
  · exact absurd hi hreset
  · exact absurd hi hinit
  · exact absurd hi (hconstruct a)

/-- What a step can be (R360, R409, R127): the operation issued first, the first command of a well-formed stream, the refusal of a
malformed one, or nothing. -/
theorem step_cases (s : State) :
    (∃ i ops, s.issued = i :: ops ∧ step s = exec i.val { s with issued := ops }) ∨
    (∃ i rest, s.issued = [] ∧ decodeHcs s.hostBytes = .ok (i, rest) ∧ step s = exec i { s with hostBytes := rest }) ∨
    (∃ e, s.issued = [] ∧ decodeStream s.hostBytes = .error e ∧ step s = .refused .malformedHostStream) ∨
    step s = .next s := by
  by_cases hi : s.issued = []
  · by_cases hb : s.hostBytes = []
    · exact .inr (.inr (.inr (step_of_idle hi hb)))
    · have hstep := step_of_bytes hi hb
      cases hs : decodeStream s.hostBytes with
      | error e => exact .inr (.inr (.inl ⟨e, hi, rfl, hstep.trans (hostStep_of_error hs)⟩))
      | ok is =>
        obtain ⟨i, rest, hdec⟩ := exists_decodeHcs_of_decodeStream hb hs
        exact .inr (.inl ⟨i, rest, hi, hdec, hstep.trans (hostStep_of_ok hs hdec)⟩)
  · obtain ⟨i, ops, hops⟩ := List.exists_cons_of_ne_nil hi
    exact .inl ⟨i, ops, hops, step_of_issued hops⟩

/-- Settles O59: a step runs an instruction on a state that differs in the Host's queues only, and no part of the invariant reads them. -/
theorem stepKeepsTheInvariant : Obligations.StepKeepsTheInvariant := by
  intro s t hinv hstep
  have hexec : ∀ (i : Instr) (u : State), u.Inv → step s = exec i u → t.Inv := fun i u hu h => by
    have hans := exec_answers i u
    rw [← h, hstep] at hans
    exact hans.2.1 hu
  rcases step_cases s with ⟨i, ops, -, h⟩ | ⟨i, rest, -, -, h⟩ | ⟨e, -, -, h⟩ | h
  · exact hexec i.val { s with issued := ops } hinv h
  · exact hexec i { s with hostBytes := rest } hinv h
  · rw [h] at hstep
    cases hstep
  · rw [h] at hstep
    cases hstep
    exact hinv

/-- A DSP just constructed over an empty ARAM, with any parameters that satisfy P2's constraint, meets the invariant (R70). -/
theorem inv_reset {p : Params} (hp : p.Wf) : State.Inv { State.reset with params := p, dsp := Dsp.reset p.resetImage 0 } :=
  ⟨hp, Dsp.wf_reset _ _, Memory.wf_nil, Resampler.fresh_wf 0⟩

/-- Settles O58: the default power-on image silences the DSP, and the rest holds for any parameters. -/
theorem resetMeetsTheInvariant : Obligations.ResetMeetsTheInvariant :=
  inv_reset (p := defaultParams) (by decide +kernel)

/-- Settles O60, by induction on the run: the Host's own moves change its queues only. -/
theorem reachableStatesMeetTheInvariant : Obligations.ReachableStatesMeetTheInvariant := by
  intro s h
  induction h with
  | reset p hp => exact inv_reset hp
  | step _ hs ih => exact stepKeepsTheInvariant _ _ ih hs
  | host _ ops bytes ih => exact ih

/-- No command of the stream is a `CopyState` (R127). -/
theorem decodeHcs_ne_copyState {bytes rest : List Byte} {i : Instr} (h : decodeHcs bytes = .ok (i, rest)) (dir : CopyDir) :
    i ≠ .copyState dir := by
  rintro rfl
  obtain ⟨code, -, -, henc⟩ := decodeHcs_inv h
  cases henc

/-- Settles O7: an instruction refuses as a `CopyState` load only, which the stream has no command for. -/
theorem stepStopsOnlyAsNamed : Obligations.StepStopsOnlyAsNamed := by
  intro s
  rcases step_cases s with ⟨i, ops, hissued, h⟩ | ⟨i, rest, -, hdec, h⟩ | ⟨e, hissued, herr, h⟩ | h
  · have hans := exec_answers i.val { s with issued := ops }
    rw [← h] at hans
    refine ⟨fun f hf => ?_, fun r hr => .inr ?_⟩
    · rw [hf] at hans
      exact hans
    · rw [hr] at hans
      obtain ⟨hrefusal, d, hi, hd⟩ := hans
      exact ⟨hrefusal, d, by rw [hissued, List.head?_cons, Option.map_some, hi], hd⟩
  · have hans := exec_answers i { s with hostBytes := rest }
    rw [← h] at hans
    refine ⟨fun f hf => ?_, fun r hr => ?_⟩
    · rw [hf] at hans
      exact hans
    · rw [hr] at hans
      obtain ⟨-, d, hi, -⟩ := hans
      exact absurd hi (decodeHcs_ne_copyState hdec _)
  · rw [h]
    refine ⟨fun f hf => (by cases hf), fun r hr => .inl ?_⟩
    cases hr
    exact ⟨rfl, hissued, e, herr⟩
  · rw [h]
    exact ⟨fun f hf => (by cases hf), fun r hr => (by cases hr)⟩

end Sys2Proof.Machine

/-! PROOFS. 40_phase_scheduler.md: the rows and the tick (R160 to R163, R171, R172), what a row writes (R86, R98), the silence of a muted
run (R309, R312, R426), and M30 (R167, R168, R291, R292). -/

namespace Sys2Proof.Machine

/-! ### Rows -/

/-- Micro-ops as instructions, one after another (entry 15). -/
theorem execAll_map_microInstr (ops : List MicroOp) (s : State) :
    execAll (ops.map microInstr) s = .next (ops.foldl (fun s op => runMicroOp op s) s) := by
  induction ops generalizing s with
  | nil => rfl
  | cons op ops ih =>
    rw [List.map_cons, execAll, exec_microInstr]
    exact ih _

theorem rowRuns_phaseInstr (p : Fin 32) : RowRuns (phaseInstr p) p (phaseTable[p].map microInstr) :=
  fun s => ⟨runRow p s, execAll_map_microInstr _ s, exec_phaseInstr p s⟩

/-- Settles O8: a row is the fold of its micro-ops, and the table lists them. -/
theorem rowsRunTheirMicroOps : Obligations.RowsRunTheirMicroOps :=
  ⟨rowRuns_phaseInstr 0, rowRuns_phaseInstr 1, rowRuns_phaseInstr 2, rowRuns_phaseInstr 3, rowRuns_phaseInstr 4, rowRuns_phaseInstr 5,
    rowRuns_phaseInstr 6, rowRuns_phaseInstr 7, rowRuns_phaseInstr 8, rowRuns_phaseInstr 9, rowRuns_phaseInstr 10,
    rowRuns_phaseInstr 11, rowRuns_phaseInstr 12, rowRuns_phaseInstr 13, rowRuns_phaseInstr 14, rowRuns_phaseInstr 15,
    rowRuns_phaseInstr 16, rowRuns_phaseInstr 17, rowRuns_phaseInstr 18, rowRuns_phaseInstr 19, rowRuns_phaseInstr 20,
    rowRuns_phaseInstr 21, rowRuns_phaseInstr 22, rowRuns_phaseInstr 23, rowRuns_phaseInstr 24, rowRuns_phaseInstr 25,
    rowRuns_phaseInstr 26, rowRuns_phaseInstr 27, rowRuns_phaseInstr 28, rowRuns_phaseInstr 29, rowRuns_phaseInstr 30,
    rowRuns_phaseInstr 31⟩

/-- The phase after a row (R161). -/
theorem phaseStep_phase_val (p : Fin 32) (s : State) : (phaseStep p s).dsp.phase.val = (p.val + 1) % 32 := by
  rw [phaseStep_phase, Fin.val_add]
  rfl

/-- Settles O9: a `Run` of one tick is the row of the phase. -/
theorem tickAdvancesThePhase : Obligations.TickAdvancesThePhase := fun s =>
  ⟨tick s, exec_run_natCast 1 s, exec_phaseInstr _ s, phaseStep_phase_val _ s, phaseStep_sameHost _ s⟩

/-- A property that the micro-ops of a row keep is kept by the row. -/
theorem runRow_keeps_of_mem {P : State → Prop} (p : Fin 32) (h : ∀ op ∈ phaseTable[p], ∀ s, P s → P (runMicroOp op s)) {s : State}
    (hs : P s) : P (runRow p s) := by
  suffices hl : ∀ (ops : List MicroOp), (∀ op ∈ ops, ∀ s, P s → P (runMicroOp op s)) → ∀ s : State, P s →
      P (ops.foldl (fun s op => runMicroOp op s) s) from hl _ h s hs
  intro ops hops
  induction ops with
  | nil => exact fun s hs => hs
  | cons op ops ih =>
    obtain ⟨hop, htail⟩ := List.forall_mem_cons.mp hops
    exact fun s hs => ih htail _ (hop s hs)

/-! ### ARAM -/

theorem phaseTable_stores : ∀ p : Fin 32, p ≠ 29 → p ≠ 30 → ∀ op ∈ phaseTable[p], op ≠ .e29 ∧ op ≠ .e30 := by decide

/-- Rows other than 29 and 30 leave ARAM alone (R98). -/
theorem phaseStep_aram {p : Fin 32} (h29 : p ≠ 29) (h30 : p ≠ 30) (s : State) : (phaseStep p s).aram = s.aram :=
  runRow_keeps_of_mem (P := fun t => t.aram = s.aram) p
    (fun op hop t ht => (runMicroOp_aram (phaseTable_stores p h29 h30 op hop).1 (phaseTable_stores p h29 h30 op hop).2 t).trans ht) rfl

/-- Row 29 stores the left word of the frame (R311, R312): M29 writes nothing the store reads. -/
theorem phaseStep_29_aram (s : State) : (phaseStep 29 s).aram = echoStore .left s.dsp s.aram := rfl

/-- What an echo write stores depends on the latch, the frame address and the accumulator only (R312). -/
theorem echoStore_congr {d e : Dsp} (henabled : e.tEchoEnabled = d.tEchoEnabled) (hptr : e.tEchoPtr = d.tEchoPtr)
    (hout : e.tEchoOut = d.tEchoOut) (ch : Chan) (m : Memory) : echoStore ch e m = echoStore ch d m := by
  unfold echoStore
  rw [henabled, hptr, hout]

/-- Row 30 stores the right word of the frame (R312, R313): M30 and V3c write nothing the store reads. -/
theorem phaseStep_30_aram (s : State) : (phaseStep 30 s).aram = echoStore .right s.dsp s.aram := by
  have hvoice := opV3c_frame s.params 0 (opM30 s.params s.dsp)
  have hglobal := opM30_frame s.params s.dsp
  refine echoStore_congr (d := s.dsp) (e := opV3c s.params 0 (opM30 s.params s.dsp)) ?_ ?_ ?_ .right s.aram
  · exact (congrArg Dsp.tEchoEnabled hvoice :).trans (congrArg Dsp.tEchoEnabled hglobal :)
  · exact (congrArg Dsp.tEchoPtr hvoice :).trans (congrArg Dsp.tEchoPtr hglobal :)
  · exact (congrArg Dsp.tEchoOut hvoice :).trans (congrArg Dsp.tEchoOut hglobal :)

/-- An echo write leaves every byte outside the frame (R86, R123). -/
theorem memRead_echoStore_of_outside {m : Memory} (hm : m.Wf) (ch : Chan) (d : Dsp) {a : Addr} (ha : 4 ≤ (a - d.tEchoPtr).toNat) :
    memRead (echoStore ch d m) a = memRead m a := by
  by_cases hoff : d.tEchoEnabled.getLsbD 5 = true
  · rw [echoStore_of_disabled hoff]
  · rw [memRead_echoStore (Bool.eq_false_iff.mpr hoff) hm, if_neg, if_neg]
    · cases ch <;> (simp only [echoWordAddr]; bv_omega)
    · cases ch <;> (simp only [echoWordAddr]; bv_omega)

/-- Settles O13: rows 29 and 30 each store one word of the frame that the state before the row names. -/
theorem tickWritesOnlyTheEchoFrame : Obligations.TickWritesOnlyTheEchoFrame := by
  intro p s hwf
  refine ⟨phaseStep p s, exec_phaseInstr p s, fun a ha => ?_, fun h29 h30 => phaseStep_aram h29 h30 s⟩
  by_cases h29 : p = 29
  · rw [h29, phaseStep_29_aram, memRead_echoStore_of_outside hwf .left s.dsp ha]
  · by_cases h30 : p = 30
    · rw [h30, phaseStep_30_aram, memRead_echoStore_of_outside hwf .right s.dsp ha]
    · rw [phaseStep_aram h29 h30]

/-! ### The emitted pairs -/

theorem phaseTable_emits : ∀ p : Fin 32, p ≠ 27 → .e27 ∉ phaseTable[p] := by decide

/-- Only E27 emits and counts (R309). -/
theorem runMicroOp_out_of_ne {op : MicroOp} (h : op ≠ .e27) (s : State) :
    (runMicroOp op s).out = s.out ∧ (runMicroOp op s).dsp.sampleCount = s.dsp.sampleCount := by
  cases op with
  | e27 => exact absurd rfl h
  | v3c v => exact ⟨rfl, (congrArg Dsp.sampleCount (opV3c_frame s.params v s.dsp) :)⟩
  | v4 v => exact ⟨rfl, (congrArg Dsp.sampleCount (opV4_frame s.aram v s.dsp) :)⟩
  | m30 => exact ⟨rfl, (congrArg Dsp.sampleCount (opM30_frame s.params s.dsp) :)⟩
  | _ => exact ⟨rfl, rfl⟩

/-- Rows other than 27 emit nothing (R171). -/
theorem phaseStep_out_of_ne {p : Fin 32} (h : p ≠ 27) (s : State) :
    (phaseStep p s).out = s.out ∧ (phaseStep p s).dsp.sampleCount = s.dsp.sampleCount :=
  runRow_keeps_of_mem (P := fun t => t.out = s.out ∧ t.dsp.sampleCount = s.dsp.sampleCount) p
    (fun _ hop t ht =>
      have hquiet := runMicroOp_out_of_ne (fun he => phaseTable_emits p h (he ▸ hop)) t
      ⟨hquiet.1.trans ht.1, hquiet.2.trans ht.2⟩) ⟨rfl, rfl⟩

/-- Row 27 emits one pair: M27 writes nothing the pair is made of (R164, R309). -/
theorem phaseStep_27_out (s : State) : (phaseStep 27 s).out = s.out ++ [emittedPair s.params s.dsp] ∧
    (phaseStep 27 s).dsp.sampleCount = s.dsp.sampleCount + 1 := ⟨rfl, rfl⟩

/-- A run of ticks in which every state meets `I`, where the pairs such states emit are `P`: how many it emits, counts and moves the
phase. Row 27 is met once each time the phase plus 4 passes a multiple of 32 (R171). -/
theorem runTicks_emits {I : State → Prop} {P : Stereo → Prop} (hI : ∀ s, I s → I (tick s))
    (hP : ∀ s, I s → P (emittedPair s.params s.dsp)) (n : Nat) {s : State} (hs : I s) :
    ∃ xs, (runTicks n s).out = s.out ++ xs ∧ xs.length = (s.dsp.phase.val + n + 4) / 32 - (s.dsp.phase.val + 4) / 32 ∧
      (∀ x ∈ xs, P x) ∧ (runTicks n s).dsp.sampleCount = s.dsp.sampleCount + xs.length ∧
      (runTicks n s).dsp.phase.val = (s.dsp.phase.val + n) % 32 := by
  induction n generalizing s with
  | zero => exact ⟨[], (List.append_nil _).symm, by simp, by simp, rfl, (Nat.mod_eq_of_lt s.dsp.phase.isLt).symm⟩
  | succ n ih =>
    obtain ⟨xs, hout, hlen, hxs, hcount, hphase⟩ := ih (hI s hs)
    have hnext : (tick s).dsp.phase.val = (s.dsp.phase.val + 1) % 32 := phaseStep_phase_val _ s
    rw [hnext] at hlen hphase
    by_cases h27 : s.dsp.phase = 27
    · have hval : s.dsp.phase.val = 27 := congrArg Fin.val h27
      obtain ⟨htout, htcount⟩ : (tick s).out = s.out ++ [emittedPair s.params s.dsp] ∧
          (tick s).dsp.sampleCount = s.dsp.sampleCount + 1 := by
        unfold tick
        rw [h27]
        exact phaseStep_27_out s
      refine ⟨emittedPair s.params s.dsp :: xs, ?_, ?_, List.forall_mem_cons.mpr ⟨hP s hs, hxs⟩, ?_, ?_⟩
      · rw [runTicks, hout, htout, List.append_assoc, List.singleton_append]
      · rw [List.length_cons, hlen]
        omega
      · rw [runTicks, hcount, htcount, List.length_cons]
        omega
      · rw [runTicks, hphase]
        omega
    · have hval : s.dsp.phase.val ≠ 27 := fun h => h27 (Fin.ext h)
      have hlt := s.dsp.phase.isLt
      obtain ⟨htout, htcount⟩ := phaseStep_out_of_ne h27 s
      refine ⟨xs, ?_, ?_, hxs, ?_, ?_⟩
      · rw [runTicks, hout]
        exact congrArg (· ++ xs) htout
      · rw [hlen]
        omega
      · rw [runTicks, hcount]
        exact congrArg (· + xs.length) htcount
      · rw [runTicks, hphase]
        omega

/-- Settles O11: 32 k ticks pass row 27 k times. -/
theorem framesEmitOnePairEach : Obligations.FramesEmitOnePairEach := by
  rintro k s ⟨-, hd, -⟩
  obtain ⟨xs, hout, hlen, hxs, hcount, hphase⟩ := runTicks_emits (I := fun t => t.dsp.Wf)
    (P := fun x => signed16 x.l ∧ signed16 x.r)
    (fun t ht => phaseStep_dsp_wf ht t.dsp.phase) (fun t ht => emittedPair_signed16 ht t.params) (32 * k) hd
  have hk : xs.length = k := by omega
  refine ⟨runTicks (32 * k) s, xs, rfl, exec_run_natCast _ s, hout, hk, hxs, hk ▸ hcount, Fin.ext ?_⟩
  rw [hphase, Nat.add_mul_mod_self_left, Nat.mod_eq_of_lt s.dsp.phase.isLt]

/-- Settles O12: from phase 0, 27 ticks stop before row 27 and 28 run it. -/
theorem pairEmittedAtPhase27 : Obligations.PairEmittedAtPhase27 := by
  intro s hphase0
  have hemits := fun n => runTicks_emits (I := fun _ => True) (P := fun _ => True) (fun _ _ => trivial) (fun _ _ => trivial) n
    (s := s) trivial
  obtain ⟨xs, hout, hlen, -, -, hphase⟩ := hemits 27
  obtain ⟨ys, hout', hlen', -, -, -⟩ := hemits 28
  rw [hphase0] at hlen hlen' hphase
  obtain rfl := List.length_eq_zero_iff.mp hlen
  obtain ⟨y, rfl⟩ := List.length_eq_one_iff.mp hlen'
  refine ⟨runTicks 27 s, runTicks 28 s, y, exec_run_natCast 27 s, ?_, Fin.ext hphase, exec_run_natCast 28 s, hout'⟩
  rw [hout, List.append_nil]

/-! ### A muted run -/

/-- No micro-op writes FLG: V7, V8 and V9 write ENDX, OUTX and ENVX (R218 to R220). -/
theorem runMicroOp_flg (op : MicroOp) (s : State) : (runMicroOp op s).dsp.reg 0x6C = s.dsp.reg 0x6C := by
  have hother : ∀ (d : Dsp) (a : RegAddr) (b : Byte), a ≠ 0x6C → (d.setReg a b).reg 0x6C = d.reg 0x6C := fun d a b h => by
    rw [Dsp.reg_setReg, if_neg h]
  have hmonitor : ∀ (v : VoiceId) (r : Fin 16), r.val < 12 → vreg v r ≠ 0x6C := fun v r hr h => by
    have hval : 16 * v.val + r.val = 0x6C := congrArg Fin.val h
    omega
  cases op with
  | v3c v => exact (congrArg (fun d : Dsp => d.reg 0x6C) (opV3c_frame s.params v s.dsp) :)
  | v4 v => exact (congrArg (fun d : Dsp => d.reg 0x6C) (opV4_frame s.aram v s.dsp) :)
  | v7 v => exact hother _ 0x7C _ (by decide)
  | v8 v => exact hother _ _ _ (hmonitor v 9 (by decide))
  | v9 v => exact hother _ _ _ (hmonitor v 8 (by decide))
  | m30 => exact (congrArg (fun d : Dsp => d.reg 0x6C) (opM30_frame s.params s.dsp) :)
  | _ => rfl

theorem tick_flg (s : State) : (tick s).dsp.reg 0x6C = s.dsp.reg 0x6C :=
  runRow_keeps (P := fun t => t.dsp.reg 0x6C = s.dsp.reg 0x6C) (fun op t ht => (runMicroOp_flg op t).trans ht) s.dsp.phase rfl

/-- What a muted run keeps (R309, R312): FLG is `flg`, ARAM is `m`, and before the two rows that store, the FLG latched by the row before
disables the store. -/
def MutedRun (flg : Byte) (m : Memory) (s : State) : Prop :=
  s.dsp.reg 0x6C = flg ∧ s.aram = m ∧ (s.dsp.phase = 29 ∨ s.dsp.phase = 30 → s.dsp.tEchoEnabled = flg)

theorem mutedRun_tick {flg : Byte} (hoff : flg.getLsbD 5 = true) {m : Memory} {s : State} (h : MutedRun flg m s) :
    MutedRun flg m (tick s) := by
  obtain ⟨hflg, hm, hlatch⟩ := h
  refine ⟨(tick_flg s).trans hflg, ?_, fun hphase => ?_⟩
  · have hstore : ∀ ch, s.dsp.phase = 29 ∨ s.dsp.phase = 30 → echoStore ch s.dsp s.aram = s.aram :=
      fun ch hp => echoStore_of_disabled ((congrArg (·.getLsbD 5) (hlatch hp)).trans hoff) ch s.aram
    unfold tick
    by_cases h29 : s.dsp.phase = 29
    · rw [h29, phaseStep_29_aram, hstore .left (.inl h29), hm]
    · by_cases h30 : s.dsp.phase = 30
      · rw [h30, phaseStep_30_aram, hstore .right (.inr h30), hm]
      · rw [phaseStep_aram h29 h30, hm]
  · have hbefore : s.dsp.phase = 28 ∨ s.dsp.phase = 29 := by
      have hnext : (tick s).dsp.phase = s.dsp.phase + 1 := rfl
      rw [hnext] at hphase
      generalize s.dsp.phase = p at hphase
      revert p
      decide
    unfold tick
    rcases hbefore with h28 | h29
    · rw [h28]
      exact hflg
    · rw [h29]
      exact hflg

/-- Settles O57: E27 emits (0, 0) while FLG bit 6 is set, and bit 5 is latched before each row that stores. -/
theorem silentWhileFlgMutes : Obligations.SilentWhileFlgMutes := by
  intro n s hphase0 hbits
  have hbit : ∀ i, i < 8 → (0x60 : Byte).getLsbD i = true → (s.dsp.reg 0x6C).getLsbD i = true := fun i _ hi => by
    have hand := congrArg (·.getLsbD i) hbits
    simp only [BitVec.getLsbD_and, hi, Bool.and_true] at hand
    exact hand
  have hmute : flgMute (s.dsp.reg 0x6C) = true := hbit 6 (by decide) (by decide)
  have hoff : (s.dsp.reg 0x6C).getLsbD 5 = true := hbit 5 (by decide) (by decide)
  have hstart : MutedRun (s.dsp.reg 0x6C) s.aram s := ⟨rfl, rfl, fun h => absurd (hphase0 ▸ h) (by decide)⟩
  have hkeeps := fun t (ht : MutedRun (s.dsp.reg 0x6C) s.aram t) => mutedRun_tick hoff ht
  obtain ⟨xs, hout, -, hxs, -, -⟩ := runTicks_emits (P := fun x => x = ⟨0, 0⟩) hkeeps
    (fun t ht => if_pos (ht.1 ▸ hmute)) n hstart
  obtain ⟨hflg, haram, -⟩ := runTicks_keeps hkeeps n hstart
  exact ⟨runTicks n s, xs.length, exec_run_natCast n s, hout.trans (congrArg (s.out ++ ·) (List.eq_replicate_of_mem hxs)), haram, hflg⟩

/-! ### M30 -/

/-- The bits of the noise register after a step: each is the bit above it, and the top one the exclusive or of the taps (R291). -/
theorem noiseNext_getLsbD (taps : Fin 15 × Fin 15) (noise : BitVec 15) {j : Nat} (hj : j < 15) :
    (noiseNext taps noise).getLsbD j =
      if j < 14 then noise.getLsbD (j + 1) else noise.getLsbD taps.1.val ^^ noise.getLsbD taps.2.val := by
  have hlow : noise.toNat / 2 < 2 ^ 14 := by omega
  have htop : ∀ fb : Bool, (if fb then 0x4000 else 0) + noise.toNat / 2 = 2 ^ 14 * fb.toNat + noise.toNat / 2 := by
    rintro (_ | _) <;> rfl
  rw [noiseNext, BitVec.getLsbD_ofNat, htop, Nat.testBit_two_pow_mul_add _ hlow]
  simp only [hj, decide_true, Bool.true_and]
  split
  · rw [Nat.testBit_div_two]; rfl
  · obtain rfl : j = 14 := by omega
    have hbit : ∀ b : Bool, decide (b.toNat % 2 = 1) = b := by decide
    rw [Nat.sub_self, Nat.testBit_zero]
    exact hbit _

/-- The noise register is held exactly when it is gated and the rate of FLG does not fire (R292). -/
theorem noiseDue_eq_false_iff (p : Params) (d : Dsp) :
    noiseDue p d = false ↔ p.noiseGated = true ∧ readCounter d.counter (flgNoiseRate (d.reg 0x6C)) ≠ 0 := by
  simp [noiseDue, fires]

/-- Settles O16: M30 in one equation gives each field, and the step of the noise register bit by bit. -/
theorem m30LatchesCountsAndSteps : Obligations.M30LatchesCountsAndSteps := by
  intro s
  have heq := opM30_eq s.params s.dsp
  have hkon : (opM30 s.params s.dsp).kon = if s.dsp.everyOtherSample then s.dsp.newKon else s.dsp.kon := (congrArg Dsp.kon heq :)
  have hkoff : (opM30 s.params s.dsp).tKoff = if s.dsp.everyOtherSample then s.dsp.reg 0x5C else s.dsp.tKoff :=
    (congrArg Dsp.tKoff heq :)
  have hcounter : (opM30 s.params s.dsp).counter = runCounter s.dsp.counter := (congrArg Dsp.counter heq :)
  have hnoise : (opM30 s.params s.dsp).noise = if noiseDue s.params { s.dsp with counter := runCounter s.dsp.counter } then
      noiseNext s.params.noiseTaps s.dsp.noise else s.dsp.noise := (congrArg Dsp.noise heq :)
  refine ⟨s.mapDsp (opM30 s.params), exec_microInstr .m30 s, congrArg (fun d => { s with dsp := d }) (opM30_frame s.params s.dsp),
    fun h => ⟨hkon.trans (if_pos h), hkoff.trans (if_pos h)⟩,
    fun h => ⟨hkon.trans (if_neg (Bool.eq_false_iff.mp h)), hkoff.trans (if_neg (Bool.eq_false_iff.mp h))⟩,
    fun h => hcounter.trans (if_pos h), fun h => ?_, ?_⟩
  · rw [State.mapDsp_dsp, hcounter, runCounter, if_neg h]
    omega
  · have hheld := noiseDue_eq_false_iff s.params { s.dsp with counter := runCounter s.dsp.counter }
    simp only [State.mapDsp_dsp, hcounter, hnoise]
    split
    · next h => rw [hheld.mpr h]; rfl
    · next h =>
      rw [if_pos ((Bool.not_eq_false _).mp (mt hheld.mp h))]
      exact ⟨fun i => (noiseNext_getLsbD _ _ (by omega)).trans (if_pos i.isLt), noiseNext_getLsbD _ _ (by decide)⟩

end Sys2Proof.Machine

/-! PROOFS. 41_voice_pipeline.md: V1, V2 (R201, R202), V3c part by part (R205 to R211), V4 and V5 (R212 to R216); 43_envelope.md: one
envelope run (R261 to R274); 42_brr_gauss.md: one decoded group (R240 to R248). -/

namespace Sys2Proof.Machine

/-- A 16-bit word is its value modulo 0x10000. -/
theorem ofNat_mod_16 (n : Nat) : BitVec.ofNat 16 (n % 0x10000) = BitVec.ofNat 16 n :=
  BitVec.eq_of_toNat_eq (by simp)

/-- Settles O18: the word type reduces the sum modulo 0x10000. -/
theorem v1FormsTheDirectoryAddress : Obligations.V1FormsTheDirectoryAddress := by
  intro v s
  refine exec_microInstr_of_mapDsp (op := .v1 v) rfl ?_
  rw [opV1, ofNat_mod_16]

/-- Settles O19: `directoryWord` is the address the statement names. -/
theorem v2ReadsTheDirectory : Obligations.V2ReadsTheDirectory := by
  rintro v s a rfl
  exact exec_microInstr_of_mapDsp (op := .v2 v) rfl rfl

/-! ### V3c -/

/-- V3c on the whole state (R205). -/
theorem exec_v3c (v : VoiceId) (s : State) : exec (microInstr (.v3c v)) s = .next (s.mapDsp (opV3c s.params v)) :=
  exec_microInstr (.v3c v) s

theorem asr_five (x : Int) : asr x 5 = x / 0x20 := by norm_num [asr]

theorem asr_ten (x : Int) : asr x 10 = x / 0x400 := by norm_num [asr]

theorem asr_eleven (x : Int) : asr x 11 = x / 0x800 := by norm_num [asr]

theorem asr_four (x : Int) : asr x 4 = x / 0x10 := by norm_num [asr]

theorem asr_one (x : Int) : asr x 1 = x / 2 := by norm_num [asr]

/-- Outside the first key-on sample the block's place stays (R207). -/
theorem Voice.keyed_of_ne (start : Addr) {x : Voice} (h : x.konDelay ≠ 5) :
    (x.keyed start).brrAddr = x.brrAddr ∧ (x.keyed start).brrOffset = x.brrOffset ∧ (x.keyed start).bufPos = x.bufPos := by
  unfold Voice.keyed
  split
  · exact ⟨rfl, rfl, rfl⟩
  · exact ⟨rfl, rfl, rfl⟩

theorem Voice.keyed_buf (start : Addr) (x : Voice) : (x.keyed start).buf = x.buf := by
  unfold Voice.keyed
  split_ifs <;> rfl

/-- What V3c leaves of the fields the envelope does not write: what the key-on sequence made them (R205, R207). -/
theorem opV3c_voice_other (p : Params) (v : VoiceId) (d : Dsp) :
    ((opV3c p v d).voice v).buf = ((d.voice v).keyed d.tBrrNextAddr).buf ∧
    ((opV3c p v d).voice v).bufPos = ((d.voice v).keyed d.tBrrNextAddr).bufPos ∧
    ((opV3c p v d).voice v).interpPos = ((d.voice v).keyed d.tBrrNextAddr).interpPos ∧
    ((opV3c p v d).voice v).brrAddr = ((d.voice v).keyed d.tBrrNextAddr).brrAddr ∧
    ((opV3c p v d).voice v).brrOffset = ((d.voice v).keyed d.tBrrNextAddr).brrOffset ∧
    ((opV3c p v d).voice v).tEnvxOut = byteOfInt (asr ((d.voice v).keyed d.tBrrNextAddr).env 4) := by
  rw [opV3c_voice, Voice.settled_other]
  exact ⟨rfl, rfl, rfl, rfl, rfl, rfl⟩

/-- Settles O21: V3c's frame, and the fields its parts after the key-on sequence leave. -/
theorem v3cFrame : Obligations.V3cFrame := by
  intro v s
  obtain ⟨hbuf, hpos, -, haddr, hoffset, -⟩ := opV3c_voice_other s.params v s.dsp
  refine ⟨_, exec_v3c v s, congrArg (fun d => { s with dsp := d }) (opV3c_frame s.params v s.dsp), fun w hw => opV3c_voice_ne hw _ _,
    hbuf.trans (Voice.keyed_buf _ _), fun h5 => ?_⟩
  obtain ⟨hkaddr, hkoffset, hkpos⟩ := Voice.keyed_of_ne s.dsp.tBrrNextAddr h5
  exact ⟨(opV3c_tBrrHeader _ _ _).trans (if_neg h5), haddr.trans hkaddr, hoffset.trans hkoffset, hpos.trans hkpos⟩

/-- Settles O22: the modulated pitch, dropped in a key-on sequence. -/
theorem v3cPitch : Obligations.V3cPitch := by
  intro v s
  refine ⟨_, exec_v3c v s, ?_⟩
  rw [State.mapDsp_dsp, opV3c_tPitch, asr_ten, asr_five, ite_not]
  rfl

/-- What the key-on sequence forces on each of its samples (R207). -/
theorem Voice.keyed_of_keyOn (start : Addr) {x : Voice} (h : x.konDelay ≠ 0) :
    (x.keyed start).env = 0 ∧ (x.keyed start).hiddenEnv = 0 ∧ (x.keyed start).konDelay = x.konDelay - 1 ∧
    (x.keyed start).envMode = x.envMode ∧ (x.keyed start).interpPos = if (x.konDelay - 1) % 4 ≠ 0 then 0x4000 else 0 := by
  unfold Voice.keyed
  rw [if_neg h]
  split <;> exact ⟨rfl, rfl, rfl, rfl, rfl⟩

/-- The first key-on sample takes the new block (R207). -/
theorem Voice.keyed_of_five (start : Addr) {x : Voice} (h : x.konDelay = 5) :
    (x.keyed start).brrAddr = start ∧ (x.keyed start).brrOffset = 1 ∧ (x.keyed start).bufPos = 0 := by
  unfold Voice.keyed
  rw [if_neg (by omega), if_pos h]
  exact ⟨rfl, rfl, rfl⟩

theorem Voice.keyed_of_zero (start : Addr) {x : Voice} (h : x.konDelay = 0) : x.keyed start = x := if_pos h

theorem enveloped_zero (x : Int) : enveloped x 0 = 0 := by
  simp [enveloped, asr, clearLow]

/-- Settles O23: the counts 5 to 1 force the position in turn, and a level of 0 silences the output and ENVX. -/
theorem v3cKeyOnSequence : Obligations.V3cKeyOnSequence := by
  intro v s hwf h0
  obtain ⟨-, -, -, -, hdelay, -⟩ := Dsp.wf_voice hwf v
  obtain ⟨henv, -, -, -, hinterp⟩ := Voice.keyed_of_keyOn s.dsp.tBrrNextAddr h0
  obtain ⟨-, hpos, hipos, haddr, hoffset, hlevel⟩ := opV3c_voice_other s.params v s.dsp
  refine ⟨_, exec_v3c v s, fun h5 => ?_, ?_, ?_, ?_, ?_⟩
  · obtain ⟨hkaddr, hkoffset, hkpos⟩ := Voice.keyed_of_five s.dsp.tBrrNextAddr h5
    exact ⟨haddr.trans hkaddr, hoffset.trans hkoffset, hpos.trans hkpos, (opV3c_tBrrHeader _ _ _).trans (if_pos h5)⟩
  · rw [State.mapDsp_dsp, hipos, hinterp]
    refine if_congr ?_ rfl rfl
    simp only [List.mem_cons, List.not_mem_nil, or_false]
    omega
  · rw [State.mapDsp_dsp, opV3c_tOutput, henv, enveloped_zero]
  · rw [State.mapDsp_dsp, opV3c_tPitch, if_neg h0]
  · rw [State.mapDsp_dsp, hlevel, henv]
    rfl

/-- The Gaussian sum over taps that are products of the table and the ring, with their shifts written as floor divisions (R250). -/
theorem interpolate_eq (p : Params) (x : Voice) {off : Fin 256} {tap : Fin 512 → Nat → Int}
    (hoff : off.val = (x.interpPos / 0x10 % 0x100).toNat)
    (htap : ∀ i j, tap i j = (p.gauss[i].toNat : Int) * x.buf[ringIndex ((x.interpPos / 0x1000).toNat + x.bufPos + j)] / 0x800) :
    interpolate p x = clearLow (clamp16 (sext16 (tap (Fin.ofNat 512 (255 - off.val)) 0 + tap (Fin.ofNat 512 (511 - off.val)) 1
      + tap (Fin.ofNat 512 (256 + off.val)) 2) + tap (Fin.ofNat 512 off.val) 3)) := by
  obtain rfl : off = fractionByte x.interpPos := Fin.ext hoff
  have hindex : ∀ n (h : n < 512), (⟨n, h⟩ : Fin 512) = Fin.ofNat 512 n := fun n h => Fin.ext (Nat.mod_eq_of_lt h).symm
  simp only [interpolate, gaussTap, asr_eleven, hindex, htap]
  rfl

/-- Settles O24: the taps are the products of the table and the ring, with their shifts written as floor divisions. -/
theorem v3cOutput : Obligations.V3cOutput := by
  rintro v s x off base tap rfl h0 hoff rfl htap
  obtain ⟨-, -, hipos, -, -, hlevel⟩ := opV3c_voice_other s.params v s.dsp
  rw [Voice.keyed_of_zero _ h0] at hipos hlevel
  refine ⟨_, exec_v3c v s, ?_, hipos, ?_⟩
  · rw [State.mapDsp_dsp, hlevel, asr_four, byteOfInt]
  · rw [State.mapDsp_dsp, opV3c_tOutput, Voice.keyed_of_zero _ h0, enveloped, asr_eleven]
    rw [← interpolate_eq s.params (s.dsp.voice v) hoff htap]
    rfl

/-! ### One envelope run -/

theorem clampLevel_eq (c : Int) : clampLevel c = max 0 (min c 0x7FF) := by
  unfold clampLevel
  split_ifs <;> omega

/-- A candidate ends Attack at the top or below 0 (R273). -/
theorem overTop_iff (p : Params) (c : Int) : overTop p c = true ↔ if p.attackDoneGe then 0x7FF ≤ c else 0x7FF < c := by
  unfold overTop
  split <;> exact decide_eq_true_iff

/-- What follows a step is what the statements write out: Decay's end and Attack's end exclude each other (R271, R273). -/
theorem settles_settleEnvelope (p : Params) (counter : Nat) (envData : Byte) (c : Int) (rate : Fin 32) (x : Voice) :
    Settles p counter envData c rate x (settleEnvelope p counter envData (c, rate) x) := by
  have hfires : fires counter rate = true ↔ (counter + rateOffset[rate]) % ratePeriod[rate] = 0 := beq_iff_eq
  have henv : (if fires counter rate then clampLevel c else x.env) =
      if (counter + rateOffset[rate]) % ratePeriod[rate] = 0 then max 0 (min c 0x7FF) else x.env := by
    rw [clampLevel_eq]
    exact if_congr hfires rfl rfl
  have hmode : attackEnd p (sustainCheck x.envMode c envData) c =
      if x.envMode = .decay ∧ c / 0x100 = envData.toNat / 32 then .sustain
      else if x.envMode = .attack ∧ ((if p.attackDoneGe then 0x7FF ≤ c else 0x7FF < c) ∨ c < 0) then .decay
      else x.envMode := by
    have hfield : (topField envData : Int) = envData.toNat / 32 := Int.natCast_ediv _ _
    rw [sustainCheck, asr_eight, hfield]
    unfold attackEnd
    simp only [overTop_iff]
    by_cases hdecay : x.envMode = .decay ∧ c / 0x100 = envData.toNat / 32
    · rw [if_pos hdecay, if_pos hdecay, if_neg (by simp)]
    · rw [if_neg hdecay, if_neg hdecay]
  unfold Settles
  rw [← henv, ← hmode]
  rfl

theorem attackRate_eq_last_iff (adsr1 : Byte) : attackRate adsr1 = 31 ↔ adsr1.toNat % 16 = 15 := by
  rw [attackRate, Fin.ext_iff]
  show adsr1.toNat % 16 * 2 + 1 = 31 ↔ _
  omega

theorem exponentialStep_eq (env : Int) : exponentialStep env = env - 1 - (env - 1) / 0x100 := by
  rw [exponentialStep, asr_eight]

/-- The step of the mode on entry, in ADSR mode (R263 to R265). -/
theorem adsrSettles_settleEnvelope (p : Params) (counter : Nat) {adsr1 : Byte} (adsr2 gain : Byte) (h : adsrEnabled adsr1 = true)
    (x : Voice) : AdsrSettles p counter adsr1 adsr2 x (settleEnvelope p counter adsr2 (envelopeStep p adsr1 adsr2 gain x) x) := by
  rw [envelopeStep, if_pos h]
  refine ⟨fun hmode => ?_, fun hmode => ?_, fun hmode => ?_⟩
  · rw [hmode]
    simp only [← attackRate_eq_last_iff]
    exact settles_settleEnvelope ..
  · rw [hmode, ← exponentialStep_eq]
    exact settles_settleEnvelope ..
  · rw [hmode, ← exponentialStep_eq]
    exact settles_settleEnvelope ..

/-- The step of the pattern of GAIN, in Gain mode (R115, R266 to R270). -/
theorem gainSettles_settleEnvelope (p : Params) (counter : Nat) (gain : Byte) (x : Voice) :
    GainSettles p counter gain x (settleEnvelope p counter gain (gainStep p gain x.hiddenEnv x.env) x) := by
  refine ⟨fun hdirect => ?_, fun h4 => ?_, fun h5 => ?_, fun h6 => ?_, fun h7 => ?_⟩
  · have hstep : gainStep p gain x.hiddenEnv x.env = ((gain.toNat : Int) * 0x10, 31) := by
      unfold gainStep topField
      split
      iterate 4 omega
      rw [gainDirectStep, directLevel, Nat.mod_eq_of_lt hdirect]
    rw [hstep]
    exact settles_settleEnvelope ..
  · rw [gainStep, topField, h4]
    exact settles_settleEnvelope ..
  · rw [gainStep, topField, h5, ← exponentialStep_eq]
    exact settles_settleEnvelope ..
  · rw [gainStep, topField, h6]
    exact settles_settleEnvelope ..
  · have hslope : (if p.hiddenEnvUnsigned = true ∧ x.hiddenEnv < 0 then x.hiddenEnv + 2 ^ 32 else x.hiddenEnv) ≥ 0x600 ↔
        0x600 ≤ x.hiddenEnv ∨ (p.hiddenEnvUnsigned = true ∧ x.hiddenEnv < 0 ∧ 0x600 ≤ x.hiddenEnv + 2 ^ 32) := by
      split
      · next h =>
        simp only [h.1, h.2, true_and]
        omega
      · next h =>
        have hnot : ¬ (p.hiddenEnvUnsigned = true ∧ x.hiddenEnv < 0 ∧ 0x600 ≤ x.hiddenEnv + 2 ^ 32) := fun h' => h ⟨h'.1, h'.2.1⟩
        rw [or_iff_left hnot]
    rw [gainStep, topField, h7]
    simp only [← hslope]
    exact settles_settleEnvelope ..

theorem adsrEnabled_iff (adsr1 : Byte) : adsrEnabled adsr1 = true ↔ 128 ≤ adsr1.toNat := by
  rw [adsrEnabled, bitOf_eq_decide, decide_eq_true_iff]
  omega

/-- One envelope run of a voice, by its mode and ADSR1 bit 7 (R261, R262). -/
theorem envelopeRan_envelopeRun (p : Params) (counter : Nat) (adsr1 adsr2 gain : Byte) (x : Voice) :
    EnvelopeRan p counter adsr1 adsr2 gain x (x.envelopeRun p counter adsr1 adsr2 gain) := by
  unfold Voice.envelopeRun
  refine ⟨fun h => ?_, fun h hadsr => ?_, fun h hgain => ?_⟩
  · rw [if_pos h]
    rfl
  · have hon := (adsrEnabled_iff adsr1).mpr hadsr
    rw [if_neg h, if_pos hon]
    exact adsrSettles_settleEnvelope p counter adsr2 gain hon x
  · have hoff : ¬ adsrEnabled adsr1 = true := mt (adsrEnabled_iff adsr1).mp (Nat.not_le.mpr hgain)
    rw [if_neg h, if_neg hoff, envelopeStep, if_neg hoff]
    exact gainSettles_settleEnvelope p counter gain x

/-- What a run leaves of the level, the hidden level and the mode depends on these three of the voice only (R261). -/
theorem Voice.envelopeRun_congr {x y : Voice} (henv : x.env = y.env) (hhidden : x.hiddenEnv = y.hiddenEnv) (hmode : x.envMode = y.envMode)
    (p : Params) (counter : Nat) (adsr1 adsr2 gain : Byte) :
    (x.envelopeRun p counter adsr1 adsr2 gain).env = (y.envelopeRun p counter adsr1 adsr2 gain).env ∧
    (x.envelopeRun p counter adsr1 adsr2 gain).hiddenEnv = (y.envelopeRun p counter adsr1 adsr2 gain).hiddenEnv ∧
    (x.envelopeRun p counter adsr1 adsr2 gain).envMode = (y.envelopeRun p counter adsr1 adsr2 gain).envMode := by
  unfold Voice.envelopeRun
  rw [hmode]
  split
  · exact ⟨congrArg releaseStep henv, hhidden, rfl⟩
  · have hstep : envelopeStep p adsr1 adsr2 gain x = envelopeStep p adsr1 adsr2 gain y := by
      unfold envelopeStep
      rw [henv, hhidden, hmode]
    unfold settleEnvelope
    rw [hstep, henv, hmode]
    exact ⟨rfl, rfl, rfl⟩

theorem Voice.envelopeRun_konDelay (p : Params) (counter : Nat) (adsr1 adsr2 gain : Byte) (x : Voice) :
    (x.envelopeRun p counter adsr1 adsr2 gain).konDelay = x.konDelay := by
  unfold Voice.envelopeRun
  split <;> rfl

/-! ### How V3c ends -/

/-- The voice before the envelope of V3c: ENVX captured, the forced release, the key latch (R208 to R210). -/
def Voice.latched (d : Dsp) (v : VoiceId) (force : Bool) (x : Voice) : Voice :=
  let y := ({ x with tEnvxOut := byteOfInt (asr x.env 4) } : Voice).released force
  if d.everyOtherSample then y.keyLatch (hasBit d.tKoff v) (hasBit d.kon v) else y

/-- The envelope runs exactly when the count is then 0 (R211). -/
theorem Voice.settled_eq (p : Params) (d : Dsp) (v : VoiceId) (force : Bool) (x : Voice) :
    x.settled p d v force =
      if (x.latched d v force).konDelay = 0 then
        (x.latched d v force).envelopeRun p d.counter d.tAdsr0 (d.reg (vreg v 6)) (d.reg (vreg v 7))
      else x.latched d v force := rfl

/-- The forced release and the key latch, field by field: key-on over key-off over the release (R209, R210). -/
theorem Voice.latched_fields (d : Dsp) (v : VoiceId) (force : Bool) (x : Voice) :
    (x.latched d v force).env = (if force then 0 else x.env) ∧
    (x.latched d v force).hiddenEnv = x.hiddenEnv ∧
    (x.latched d v force).konDelay = (if d.everyOtherSample && hasBit d.kon v then 5 else x.konDelay) ∧
    (x.latched d v force).envMode =
      (if d.everyOtherSample && hasBit d.kon v then .attack
      else if force = true ∨ (d.everyOtherSample = true ∧ hasBit d.tKoff v = true) then .release else x.envMode) := by
  unfold Voice.latched Voice.keyLatch Voice.released
  cases d.everyOtherSample <;> cases hasBit d.kon v <;> cases hasBit d.tKoff v <;> cases force <;> exact ⟨rfl, rfl, rfl, rfl⟩

/-- The key-on sequence on the levels, the count and the mode (R207). -/
theorem Voice.keyed_fields (start : Addr) (x : Voice) :
    (x.keyed start).env = (if x.konDelay ≠ 0 then 0 else x.env) ∧
    (x.keyed start).hiddenEnv = (if x.konDelay ≠ 0 then 0 else x.hiddenEnv) ∧
    (x.keyed start).konDelay = x.konDelay - 1 ∧ (x.keyed start).envMode = x.envMode := by
  by_cases h : x.konDelay = 0
  · rw [Voice.keyed_of_zero start h, if_neg (not_not.mpr h), if_neg (not_not.mpr h), h]
    exact ⟨rfl, rfl, rfl, rfl⟩
  · obtain ⟨henv, hhidden, hdelay, hmode, -⟩ := Voice.keyed_of_keyOn start h
    rw [if_pos h, if_pos h]
    exact ⟨henv, hhidden, hdelay, hmode⟩

theorem flgReset_eq (flg : Byte) : flgReset flg = decide (128 ≤ flg.toNat) := by
  rw [flgReset, bitOf_eq_decide, decide_eq_decide]
  omega

/-- The header counts as 0 on the first key-on sample (R207, R209). -/
theorem headerTerminates_keyed (delay : Nat) (header : Byte) :
    headerTerminates (if delay = 5 then 0 else header) = (decide (delay ≠ 5) && decide (header.toNat % 4 = 1)) := by
  by_cases h : delay = 5
  · rw [if_pos h, h]
    rfl
  · rw [if_neg h, decide_eq_true h, Bool.true_and]
    rfl

/-- Settles O25: V3c ends as the voice the statement names, with the envelope run on it when its count is 0. -/
theorem v3cKeysAndEnvelope : Obligations.V3cKeysAndEnvelope := by
  rintro v s x y silenced latched rfl hsilenced hlatched hy
  have hforce : (flgReset (s.dsp.reg 0x6C) || headerTerminates (if (s.dsp.voice v).konDelay = 5 then 0 else s.dsp.tBrrHeader)) =
      silenced := by
    rw [hsilenced, flgReset_eq, headerTerminates_keyed]
  have hvoice := opV3c_voice s.params v s.dsp
  rw [hforce, Voice.settled_eq] at hvoice
  obtain ⟨hkenv, hkhidden, hkdelay, hkmode⟩ := Voice.keyed_fields s.dsp.tBrrNextAddr (s.dsp.voice v)
  obtain ⟨henv, hhidden, hdelay, hmode⟩ := Voice.latched_fields s.dsp v silenced ((s.dsp.voice v).keyed s.dsp.tBrrNextAddr)
  rw [hkenv, ← ite_or] at henv
  rw [hkhidden] at hhidden
  have hl : (s.dsp.everyOtherSample && hasBit s.dsp.kon v) = latched := hlatched.symm
  rw [hl, hkdelay] at hdelay
  rw [hl, hkmode] at hmode
  generalize ((s.dsp.voice v).keyed s.dsp.tBrrNextAddr).latched s.dsp v silenced = z at hvoice henv hhidden hdelay hmode
  have hyenv : z.env = y.env := by rw [hy, henv]
  have hyhidden : z.hiddenEnv = y.hiddenEnv := by rw [hy, hhidden]
  have hydelay : z.konDelay = y.konDelay := by rw [hy, hdelay]
  have hymode : z.envMode = y.envMode := by rw [hy, hmode]; rfl
  refine ⟨_, _, exec_v3c v s, rfl, ?_, fun h => ?_, fun h => ?_⟩
  · rw [State.mapDsp_dsp, hvoice, ← hydelay]
    split
    · exact Voice.envelopeRun_konDelay ..
    · rfl
  · rw [State.mapDsp_dsp, hvoice, if_neg (hydelay ▸ h)]
    exact ⟨hyenv, hyhidden, hymode⟩
  · rw [State.mapDsp_dsp, hvoice, if_pos (hydelay.trans h)]
    exact ⟨_, envelopeRan_envelopeRun .., Voice.envelopeRun_congr hyenv hyhidden hymode ..⟩

end Sys2Proof.Machine

/-! PROOFS. 42_brr_gauss.md: one decoded group (R240 to R248); 41_voice_pipeline.md: V4 and V5 (R212 to R216). -/

namespace Sys2Proof.Machine

/-! ### One decoded group -/

theorem scaled_scale (shift : Nat) (n : Int) : Scaled shift n (scale n shift) := by
  unfold Scaled scale
  by_cases hvalid : shift ≤ 12
  · exact .inl ⟨hvalid, by rw [if_pos hvalid, asr_one]⟩
  · by_cases hneg : n < 0
    · exact .inr (.inl ⟨by omega, hneg, by rw [if_neg hvalid, if_pos hneg]⟩)
    · exact .inr (.inr ⟨by omega, by omega, by rw [if_neg hvalid, if_neg hneg]⟩)

theorem predicted_predict {filter : Nat} (h : filter < 4) (p1 p2 : Int) : Predicted filter p1 p2 (predict filter p1 p2) := by
  unfold Predicted
  interval_cases filter <;> simp [predict, asr]

theorem ringIndex_ne {m n : Nat} (h : m % 12 ≠ n % 12) : (ringIndex m).val ≠ (ringIndex n).val := h

/-- A sample decoded leaves every other place of the ring (R248). -/
theorem decodeSample_getElem_of_ne (header first second : Byte) (pos : Nat) (buf : Vector Int 12) (k : Fin 4) {n : Nat}
    (h : (pos + k.val) % 12 ≠ n % 12) : (decodeSample header first second pos buf k)[ringIndex n] = buf[ringIndex n] :=
  Vector.getElem_set_ne (ringIndex (pos + k.val)).isLt (ringIndex n).isLt (ringIndex_ne h)

/-- A sample decoded, at its place (R240, R248). -/
theorem decodeSample_getElem_self (header first second : Byte) (pos : Nat) (buf : Vector Int 12) (k : Fin 4) :
    (decodeSample header first second pos buf k)[ringIndex (pos + k.val)] =
      sext16 (clamp16 (scale (sext4 (groupNibble first second k)) (headerShift header) +
        predict (headerFilter header) buf[ringIndex (pos + k.val + 11)] (asr buf[ringIndex (pos + k.val + 10)] 1)) * 2) :=
  Vector.getElem_set_self _

theorem decodeFour_eq (header first second : Byte) (pos : Nat) (buf : Vector Int 12) :
    decodeFour header first second pos buf =
      decodeSample header first second pos (decodeSample header first second pos (decodeSample header first second pos
        (decodeSample header first second pos buf 0) 1) 2) 3 := rfl

/-- Each sample of a group predicts from two places that no later sample of the group writes (R240, R248). -/
theorem decodeFour_getElem (header first second : Byte) (pos : Nat) (old : Vector Int 12) (k : Fin 4) :
    (decodeFour header first second pos old)[ringIndex (pos + k.val)] =
      sext16 (clamp16 (scale (sext4 (groupNibble first second k)) (headerShift header) +
        predict (headerFilter header) (decodeFour header first second pos old)[ringIndex (pos + k.val + 11)]
          (asr (decodeFour header first second pos old)[ringIndex (pos + k.val + 10)] 1)) * 2) := by
  have hne0 : ∀ buf n, (pos + 0) % 12 ≠ n % 12 → (decodeSample header first second pos buf 0)[ringIndex n] = buf[ringIndex n] :=
    fun buf _ h => decodeSample_getElem_of_ne header first second pos buf 0 h
  have hne1 : ∀ buf n, (pos + 1) % 12 ≠ n % 12 → (decodeSample header first second pos buf 1)[ringIndex n] = buf[ringIndex n] :=
    fun buf _ h => decodeSample_getElem_of_ne header first second pos buf 1 h
  have hne2 : ∀ buf n, (pos + 2) % 12 ≠ n % 12 → (decodeSample header first second pos buf 2)[ringIndex n] = buf[ringIndex n] :=
    fun buf _ h => decodeSample_getElem_of_ne header first second pos buf 2 h
  have hne3 : ∀ buf n, (pos + 3) % 12 ≠ n % 12 → (decodeSample header first second pos buf 3)[ringIndex n] = buf[ringIndex n] :=
    fun buf _ h => decodeSample_getElem_of_ne header first second pos buf 3 h
  have hself := decodeSample_getElem_self header first second pos
  rw [decodeFour_eq]
  fin_cases k
  · simp (disch := omega) only [hne0, hne1, hne2, hne3]
    exact hself old 0
  · simp (disch := omega) only [hne1, hne2, hne3]
    exact hself _ 1
  · simp (disch := omega) only [hne2, hne3]
    exact hself _ 2
  · simp (disch := omega) only [hne3]
    exact hself _ 3

/-- The eight other places of the ring stay (R240). -/
theorem decodeFour_getElem_other (header first second : Byte) (pos : Nat) (old : Vector Int 12) (j : Fin 8) :
    (decodeFour header first second pos old)[ringIndex (pos + 4 + j.val)] = old[ringIndex (pos + 4 + j.val)] := by
  have hne : ∀ (k : Fin 4) (buf : Vector Int 12),
      (decodeSample header first second pos buf k)[ringIndex (pos + 4 + j.val)] = buf[ringIndex (pos + 4 + j.val)] :=
    fun k buf => decodeSample_getElem_of_ne header first second pos buf k (by omega)
  simp only [decodeFour_eq, hne]

theorem decodedGroup_decodeFour (header first second : Byte) (pos : Nat) (old : Vector Int 12) :
    DecodedGroup header first second pos old (decodeFour header first second pos old) := by
  refine ⟨fun k => ⟨_, _, scaled_scale _ _, predicted_predict (Nat.mod_lt _ (by decide)) _ _, ?_⟩, decodeFour_getElem_other _ _ _ _ _⟩
  rw [decodeFour_getElem, asr_one]
  rfl

/-! ### V4 and V5 -/

theorem vbit_eq : ∀ v : VoiceId, vbit v = BitVec.ofNat 8 (2 ^ v.val) := by decide

theorem advancePosition_eq (pos pitch : Int) : advancePosition pos pitch = min (pos % 0x4000 + pitch) 0x7FFF := by
  unfold advancePosition
  split_ifs <;> omega

/-- A voice's contribution with its shift written as a floor division (R215). -/
theorem amplitude_eq (d : Dsp) (v : VoiceId) (ch : Chan) :
    amplitude d v ch = if d.muteMask.getLsbD v.val then 0 else d.tOutput * sext8 (d.reg (volReg v ch)) / 0x80 := by
  rw [amplitude, asr_seven]
  rfl

/-- What V4 leaves of its voice (R212 to R214). -/
theorem opV4_voice (m : Memory) (v : VoiceId) (d : Dsp) :
    (opV4 m v d).voice v =
      { (if (d.voice v).interpPos ≥ 0x4000 then
          (d.voice v).decoded d.tBrrHeader d.tBrrByte (memRead m ((d.voice v).brrAddr + BitVec.ofNat 16 ((d.voice v).brrOffset + 1)))
            d.tBrrNextAddr
        else d.voice v) with interpPos := advancePosition (d.voice v).interpPos d.tPitch } := by
  rw [opV4_eq]
  exact Dsp.voice_setVoice_self _ _ _

/-- The end flag V4 passes on (R213). -/
theorem opV4_tLooped (m : Memory) (v : VoiceId) (d : Dsp) :
    (opV4 m v d).tLooped =
      if (d.voice v).interpPos ≥ 0x4000 ∧ (d.voice v).brrOffset + 2 ≥ 9 ∧ headerEnd d.tBrrHeader = true then vbit v else 0 := by
  rw [opV4_eq]
  rfl

/-- The left mixes after V4 (R215): the decode and the advance write nothing the mix reads. -/
theorem opV4_mixes (m : Memory) (v : VoiceId) (d : Dsp) :
    (opV4 m v d).tMainOut = { d.tMainOut with l := clamp16 (d.tMainOut.l + amplitude d v .left) } ∧
    (opV4 m v d).tEchoOut = if d.tEon.getLsbD v.val then { d.tEchoOut with l := clamp16 (d.tEchoOut.l + amplitude d v .left) }
      else d.tEchoOut := by
  rw [opV4_eq]
  exact ⟨rfl, rfl⟩

/-- The right mixes after V5 (R215). -/
theorem opV5_mixes (v : VoiceId) (d : Dsp) :
    (opV5 v d).tMainOut = { d.tMainOut with r := clamp16 (d.tMainOut.r + amplitude d v .right) } ∧
    (opV5 v d).tEchoOut = if d.tEon.getLsbD v.val then { d.tEchoOut with r := clamp16 (d.tEchoOut.r + amplitude d v .right) }
      else d.tEchoOut := ⟨rfl, rfl⟩

/-- The block advance with its branches the way the statements write them (R213). -/
theorem Voice.decoded_eq (header first second : Byte) (next : Addr) (x : Voice) :
    x.decoded header first second next = { x with
      buf := decodeFour header first second x.bufPos x.buf
      bufPos := (x.bufPos + 4) % 12
      brrOffset := if x.brrOffset + 2 < 9 then x.brrOffset + 2 else 1
      brrAddr := if x.brrOffset + 2 < 9 then x.brrAddr else if header.getLsbD 0 then next else x.brrAddr + 9 } := by
  unfold Voice.decoded
  simp only [ge_iff_le, ← not_lt, ite_not]
  rfl

/-- Settles O26: V4 in one equation, field by field. -/
theorem v4DecodesAdvancesAndMixes : Obligations.V4DecodesAdvancesAndMixes := by
  rintro v s x amp rfl hamp
  obtain rfl : amp = amplitude s.dsp v .left := hamp.trans (amplitude_eq s.dsp v .left).symm
  obtain ⟨hmain, hecho⟩ := opV4_mixes s.aram v s.dsp
  have hvoice := opV4_voice s.aram v s.dsp
  have hlooped := opV4_tLooped s.aram v s.dsp
  refine ⟨s.mapDsp (opV4 s.aram v), _, exec_microInstr (.v4 v) s, rfl, ?_, fun w hw => opV4_voice_ne hw _ _, ?_, fun hlow => ⟨?_, ?_⟩,
    fun hhigh => ⟨?_, ?_, ?_⟩⟩
  · have hframe := opV4_frame s.aram v s.dsp
    unfold V4Frame at hframe
    rw [hmain, hecho] at hframe
    exact congrArg (fun d => { s with dsp := d }) hframe
  · rw [State.mapDsp_dsp, hvoice, advancePosition_eq]
  · rw [State.mapDsp_dsp, hlooped, if_neg (fun h => absurd h.1 (not_le.mpr hlow))]
  · rw [State.mapDsp_dsp, hvoice, if_neg (not_le.mpr hlow)]
  · rw [State.mapDsp_dsp, hvoice, if_pos hhigh]
    exact decodedGroup_decodeFour ..
  · rw [State.mapDsp_dsp, hvoice, if_pos hhigh, Voice.decoded_eq]
  · rw [State.mapDsp_dsp, hlooped, vbit_eq]
    exact if_congr (and_iff_right hhigh) rfl rfl

theorem vbit_getLsbD : ∀ v w : VoiceId, (vbit v).getLsbD w.val = decide (w = v) := by decide

/-- The end flags staged, bit by bit (R216). -/
theorem stageEndx_getLsbD (endx looped : Byte) (konDelay : Nat) (v w : VoiceId) :
    (stageEndx endx looped konDelay v).getLsbD w.val =
      ((endx.getLsbD w.val || looped.getLsbD w.val) && !(decide (w = v) && decide (konDelay = 5))) := by
  have hw : w.val < 8 := w.isLt
  unfold stageEndx
  split
  · next h => simp only [BitVec.getLsbD_and, BitVec.getLsbD_or, BitVec.getLsbD_not, vbit_getLsbD, hw, h, decide_true, Bool.true_and,
      Bool.and_true]
  · next h => simp only [BitVec.getLsbD_or, h, decide_false, Bool.and_false, Bool.not_false, Bool.and_true]

/-- Settles O27: V5's frame, its right mixes, and the staged flags bit by bit. -/
theorem v5MixesAndStagesEndx : Obligations.V5MixesAndStagesEndx := by
  rintro v s amp hamp
  obtain rfl : amp = amplitude s.dsp v .right := hamp.trans (amplitude_eq s.dsp v .right).symm
  obtain ⟨hmain, hecho⟩ := opV5_mixes v s.dsp
  refine ⟨s.mapDsp (opV5 v), exec_microInstr (.v5 v) s, ?_, fun w => ?_⟩
  · have hframe := opV5_frame v s.dsp
    rw [hmain, hecho] at hframe
    exact congrArg (fun d => { s with dsp := d }) hframe
  · exact stageEndx_getLsbD _ _ _ v w

/-! ### A masked voice -/

theorem clamp16_of_signed16 {x : Int} (h : signed16 x) : clamp16 x = x := by
  unfold clamp16
  split_ifs <;> omega

/-- The amplitude of a masked voice is 0 (R368). -/
theorem amplitude_of_muted {d : Dsp} {v : VoiceId} (h : d.muteMask.getLsbD v.val = true) (ch : Chan) : amplitude d v ch = 0 :=
  if_pos h

/-- A mix in range is its own clamp, so a masked voice's V4 leaves both mixes (R215, R368). -/
theorem opV4_mixes_of_muted (m : Memory) {v : VoiceId} {d : Dsp} (h : d.muteMask.getLsbD v.val = true) (hmain : signed16 d.tMainOut.l)
    (hecho : signed16 d.tEchoOut.l) : (opV4 m v d).tMainOut = d.tMainOut ∧ (opV4 m v d).tEchoOut = d.tEchoOut := by
  obtain ⟨hm, he⟩ := opV4_mixes m v d
  rw [amplitude_of_muted h, add_zero, clamp16_of_signed16 hmain] at hm
  rw [amplitude_of_muted h, add_zero, clamp16_of_signed16 hecho, ite_self] at he
  exact ⟨hm, he⟩

theorem opV5_mixes_of_muted {v : VoiceId} {d : Dsp} (h : d.muteMask.getLsbD v.val = true) (hmain : signed16 d.tMainOut.r)
    (hecho : signed16 d.tEchoOut.r) : (opV5 v d).tMainOut = d.tMainOut ∧ (opV5 v d).tEchoOut = d.tEchoOut := by
  obtain ⟨hm, he⟩ := opV5_mixes v d
  rw [amplitude_of_muted h, add_zero, clamp16_of_signed16 hmain] at hm
  rw [amplitude_of_muted h, add_zero, clamp16_of_signed16 hecho, ite_self] at he
  exact ⟨hm, he⟩

/-- Settles O39: after the mask is set, V4 and V5 of a masked voice add an amplitude of 0. -/
theorem muteVoicesSilences : Obligations.MuteVoicesSilences := by
  intro mask v s
  refine ⟨_, _, _, rfl, rfl, exec_microInstr (.v4 v) _, exec_microInstr (.v5 v) _, fun hmuted hml hmr hel her => ?_⟩
  obtain ⟨hmain, hecho⟩ := opV4_mixes_of_muted s.aram hmuted hml hel
  obtain ⟨hmain', hecho'⟩ := opV5_mixes_of_muted hmuted hmr her
  exact ⟨hmain, hecho, hmain', hecho'⟩

end Sys2Proof.Machine

/-! PROOFS. 47_host_interface.md: the Host's operations on registers, ARAM and the DSP (R361 to R370, R420), and the pseudo-commands
(R128). -/

namespace Sys2Proof.Machine

/-! ### Register accesses -/

/-- An access with an address on the bus (R362, R363). -/
theorem hostRegister_val (a : RegAddr) (acc : RegAccess) (s : State) : hostRegister a.val acc s = .next (accessRegister a acc s) := by
  have hrange : 0 ≤ (a.val : Int) ∧ (a.val : Int) < 128 := by omega
  rw [hostRegister, dif_pos hrange]
  rfl

/-- A register write of a byte on the bus (R362). -/
theorem exec_writeReg (a : RegAddr) (b : Byte) (s : State) : exec (.writeReg a.val b.toNat) s = .next (storeRegister a b s) := by
  have hrange : 0 ≤ (b.toNat : Int) ∧ (b.toNat : Int) < 256 := by omega
  show execWriteReg _ _ s = _
  rw [execWriteReg, if_pos hrange, byteOfInt, ofInt_natCast_toNat]
  exact hostRegister_val a (.write b) s

theorem exec_readReg (a : RegAddr) (s : State) : exec (.readReg a.val) s = .next (s.report (.byte (s.dsp.reg a))) :=
  hostRegister_val a .read s

/-- An address off the bus is F5 (R394). -/
theorem hostRegister_of_off {addr : Int} (h : ¬ (0 ≤ addr ∧ addr < 128)) (acc : RegAccess) (s : State) :
    hostRegister addr acc s = .next (s.report (.fault .invalidRegisterAccess)) := dif_neg h

/-- A register write in one equation (R362, R364 to R366): the bank, and the buffers of the four addresses that have them. -/
theorem Dsp.writeRegister_eq (d : Dsp) (a : RegAddr) (b : Byte) : d.writeRegister a b = { d with
    regs := (d.writeRegister a b).regs
    envxBuf := if (a.val : Int) % 16 = 8 then b else d.envxBuf
    outxBuf := if (a.val : Int) % 16 = 9 then b else d.outxBuf
    newKon := if (a.val : Int) = 0x4C then b else d.newKon
    endxBuf := if (a.val : Int) = 0x7C then 0 else d.endxBuf } := by
  have henvx : (a.val : Int) % 16 = 8 ↔ a.val % 16 = 8 := by omega
  have houtx : (a.val : Int) % 16 = 9 ↔ a.val % 16 = 9 := by omega
  have hkon : (a.val : Int) = 0x4C ↔ a.val = 0x4C := by omega
  have hendx : (a.val : Int) = 0x7C ↔ a.val = 0x7C := by omega
  simp only [henvx, houtx, hkon, hendx]
  unfold Dsp.writeRegister
  simp only
  split_ifs <;> rfl

/-- Settles O35: address and data in range name a register and a byte, and a write of them is one equation. -/
theorem writeRegStores : Obligations.WriteRegStores := by
  intro addr data s
  split
  · next h =>
    obtain ⟨ha0, ha, hd0, hd⟩ := h
    obtain ⟨a, rfl⟩ : ∃ a : RegAddr, (a.val : Int) = addr := ⟨⟨addr.toNat, by omega⟩, Int.toNat_of_nonneg ha0⟩
    have hdata : ((BitVec.ofInt 8 data).toNat : Int) = data := toNat_ofInt_byte ⟨hd0, hd⟩
    generalize BitVec.ofInt 8 data = b at hdata ⊢
    obtain rfl := hdata
    refine ⟨_, exec_writeReg a b s, congrArg (fun d => { s with dsp := d }) (Dsp.writeRegister_eq s.dsp a b), fun c => ?_⟩
    rw [storeRegister_dsp, Dsp.reg_writeRegister]
    exact if_congr (by rw [Fin.ext_iff]; omega) (if_congr (by omega) rfl rfl) rfl
  · next h =>
    show execWriteReg addr data s = _
    unfold execWriteReg
    split
    · next hd => exact hostRegister_of_off (fun ha => h ⟨ha.1, ha.2, hd⟩) _ s
    · rfl

/-- Settles O36: on the bus an address names a register, off it the access is F5. -/
theorem readRegReports : Obligations.ReadRegReports := by
  refine fun addr s => ⟨?_, fun h => hostRegister_of_off (by omega) .read s⟩
  rintro a rfl
  exact exec_readReg a s

/-- Settles O37: both are the access to the address `16 x + r`. -/
theorem registerRowsAccessTheirAddress : Obligations.RegisterRowsAccessTheirAddress := fun x r s =>
  ⟨⟨_, exec_regRow .read x r s, exec_readReg (vreg x r) s⟩, fun b => ⟨_, exec_regRow (.write b) x r s, exec_writeReg (vreg x r) b s⟩⟩

/-! ### ARAM -/

/-- Settles O38: a byte stored is read back, and every other byte as before. -/
theorem hostReadsAndWritesAram : Obligations.HostReadsAndWritesAram := by
  refine fun a b s hwf => ⟨⟨storeAram a b s, rfl, rfl, fun x => ?_⟩, rfl⟩
  exact (memRead_memWrite hwf a b x).trans (if_congr eq_comm rfl rfl)

/-- Cells written one after another: the last one listed for an address is read there, and what was there before if none is (R361). -/
theorem memRead_foldl_memWrite (cells : List Host.Cell) {m : Memory} (hm : m.Wf) (a : Addr) :
    memRead (cells.foldl (fun m c => memWrite m (BitVec.ofNat 16 c.1) c.2) m) a =
      ((cells.reverse.find? (fun c => decide (c.1 % 0x10000 = a.toNat))).map Prod.snd).getD (memRead m a) := by
  induction cells generalizing m with
  | nil => rfl
  | cons c cells ih =>
    have haddr : BitVec.ofNat 16 c.1 = a ↔ c.1 % 0x10000 = a.toNat := by
      rw [← BitVec.toNat_inj, BitVec.toNat_ofNat]
    rw [List.foldl_cons, ih (memWrite_wf hm _ _), memRead_memWrite hm, List.reverse_cons, List.find?_append]
    cases cells.reverse.find? (fun c => decide (c.1 % 0x10000 = a.toNat)) with
    | some x => rfl
    | none =>
      by_cases h : c.1 % 0x10000 = a.toNat
      · simp [haddr.mpr h, h]
      · simp [mt haddr.mp h, h]

/-- Settles O41: `Construct` of 0x10000 bytes is `Reset` with the mask cleared, over the image's cells written one after another. -/
theorem constructBindsAram : Obligations.ConstructBindsAram := by
  refine fun s => ⟨rfl, fun image => ⟨fun h => if_neg h, fun h => ?_⟩⟩
  exact ⟨_, _, rfl, if_pos h, rfl, memOfCells_wf image.cells, fun a => memRead_foldl_memWrite image.cells Memory.wf_nil a⟩

/-! ### `Reset` and `CopyState` -/

theorem buf_reset (i : Fin 12) : Voice.reset.buf[i] = 0 := by
  revert i
  decide

/-- Settles O40: each field of `Dsp.reset`. -/
theorem resetLeaves : Obligations.ResetLeaves := by
  intro s
  refine ⟨resetDsp s, rfl, rfl, fun a => rfl, ⟨rfl, rfl, rfl⟩, ⟨rfl, rfl, rfl⟩, ⟨rfl, echoHist_reset, rfl⟩, ⟨rfl, rfl⟩,
    ⟨rfl, rfl, rfl, rfl⟩, ⟨rfl, rfl⟩, ⟨rfl, rfl, rfl, rfl, rfl⟩, ⟨rfl, rfl, rfl, rfl, rfl⟩, ⟨rfl, rfl, rfl⟩, ⟨rfl, rfl, rfl⟩, rfl, rfl,
    fun v => ?_⟩
  have hvoice : (resetDsp s).dsp.voice v = Voice.reset := voices_reset v
  rw [hvoice]
  exact ⟨buf_reset, rfl, rfl, rfl, rfl, rfl, rfl, rfl, rfl, rfl⟩

/-- A load of a record in range (R370). -/
theorem exec_load_of_wf {d : Dsp} (h : d.Wf) (s : State) : exec (.copyState (.load d)) s = .next { s with dsp := d } := if_pos h

/-- Settles O42: a save reports the record, and a load takes it exactly when it is in range. -/
theorem copyStateRoundTrip : Obligations.CopyStateRoundTrip := by
  refine fun s => ⟨rfl, fun d h => ⟨exec_load_of_wf h s, ?_⟩, fun d h => if_neg h⟩
  rw [execAll, exec_load_of_wf h]
  rfl

/-! ### The pseudo-commands -/

theorem execAll_cons_of_next {i : Instr} {is : List Instr} {s t : State} (h : exec i s = .next t) : execAll (i :: is) s = execAll is t := by
  rw [execAll, h]

/-- Registers written 0 one after another, as `INIT` does (R128). -/
theorem execAll_clearRegisters (l : List RegAddr) (is : List Instr) (s : State) :
    execAll (l.map (fun a => Instr.writeReg a.val 0) ++ is) s = execAll is (l.foldl (fun s a => storeRegister a 0 s) s) := by
  induction l generalizing s with
  | nil => rfl
  | cons a l ih => exact (execAll_cons_of_next (exec_writeReg a 0 s)).trans (ih _)

theorem extractLsb'_eq_lowByte (w : BitVec 16) : w.extractLsb' 0 8 = lowByte w := by
  apply BitVec.eq_of_toNat_eq
  rw [lowByte_toNat, BitVec.extractLsb'_toNat, Nat.shiftRight_zero]

theorem extractLsb'_eq_highByte (w : BitVec 16) : w.extractLsb' 8 8 = highByte w := by
  apply BitVec.eq_of_toNat_eq
  rw [highByte_toNat, BitVec.extractLsb'_toNat, Nat.shiftRight_eq_div_pow]
  exact Nat.mod_eq_of_lt (by omega)

/-- `INIT` and its expansion (R128, R424). -/
theorem init_expands (s : State) : ∃ t, exec .init s = .next t ∧
    execAll (.reset :: ((List.range 128).map (fun a => Instr.writeReg a 0) ++ [.writeReg 0x6C 0x20])) s = .next t := by
  refine ⟨_, rfl, ?_⟩
  have hregs : (List.range 128).map (fun a => Instr.writeReg a 0) = (List.finRange 128).map (fun a => Instr.writeReg a.val 0) := by
    rw [bind_pure_comp, List.map_eq_map, List.map_map, ← List.map_coe_finRange_eq_range, List.map_map]
    rfl
  rw [execAll_cons_of_next (t := resetDsp s) rfl, hregs, execAll_clearRegisters]
  exact execAll_cons_of_next (exec_writeReg 0x6C 0x20 _)

/-- Settles O43: the commands of each expansion, one after another. -/
theorem pseudoCommandsExpand : Obligations.PseudoCommandsExpand := by
  refine fun s => ⟨fun k => ⟨_, rfl, execAll_cons_of_next (exec_run_natCast _ s)⟩, init_expands s, fun v p => ⟨_, rfl, ?_⟩,
    fun mm => ⟨_, rfl, exec_writeReg 0x4C mm s⟩, fun mm => ⟨_, rfl, exec_writeReg 0x5C mm s⟩, ?_, fun a b => ⟨_, rfl, ?_⟩⟩
  · rw [← lowByte_toNat, ← highByte_toNat]
    exact (execAll_cons_of_next (exec_writeReg (vreg v 2) (lowByte p) s)).trans
      (execAll_cons_of_next (exec_writeReg (vreg v 3) (highByte p) _))
  · rintro pp nn ssss llll a rfl
    refine ⟨_, rfl, ?_⟩
    simp only [extractLsb'_eq_lowByte, extractLsb'_eq_highByte]
    rfl
  · have hfirst : a + BitVec.ofNat 16 (0 : Fin 9).val = a := BitVec.add_zero a
    have hall : List.finRange 9 = [0, 1, 2, 3, 4, 5, 6, 7, 8] := rfl
    rw [hall, List.foldl_cons, hfirst]
    rfl

end Sys2Proof.Machine

/-! PROOFS. 45_echo_fir.md: the echo reads and the FIR sum of E22 to E25 (R301 to R306); 30_encoding.md: the words of the data formats as
instructions (R110 to R129). -/

namespace Sys2Proof.Machine

/-! ### The echo reads and the FIR sum -/

theorem asr_six (x : Int) : asr x 6 = x / 0x40 := by norm_num [asr]

/-- A tap with its indices and its shift written out (R303). -/
theorem calcFir_eq (d : Dsp) (i : Nat) (ch : Chan) :
    calcFir d (Fin.ofNat 8 i) ch =
      (d.echoHist[d.echoHistPos + Fin.ofNat 8 (i + 1)].get ch) * sext8 (d.reg (vreg (Fin.ofNat 8 i) 15)) / 0x40 := by
  have hindex : d.echoHistPos + Fin.ofNat 8 i + 1 = d.echoHistPos + Fin.ofNat 8 (i + 1) := by
    rw [add_assoc]
    congr 1
    apply Fin.ext
    simp [Fin.val_add, Fin.ofNat]
  simp only [calcFir, asr_six, hindex, firReg]

/-- A word from its two bytes, as a signed value (R8, R82). -/
theorem wordOfBytes_toInt (lo hi : Byte) : (wordOfBytes lo hi).toInt = sext16 (lo.toNat + 0x100 * hi.toNat) := by
  rw [BitVec.toInt_eq_toNat_cond, wordOfBytes_toNat, sext16]
  split <;> omega

theorem halved_memReadWord (m : Memory) (a : Addr) :
    halved (memReadWord m a) = sext16 ((memRead m a).toNat + 0x100 * (memRead m (a + 1)).toNat) / 2 := by
  rw [halved, asr_one, memReadWord, wordOfBytes_toInt]

/-- Settles O29: each sum is in the order of its taps, and each word read is halved with its wrap written out. -/
theorem echoReadsAndSums : Obligations.EchoReadsAndSums := by
  intro s tap htap
  have hfir : ∀ (d : Dsp) (i : Nat) (ch : Chan), tap d i ch = calcFir d (Fin.ofNat 8 i) ch := fun d i ch =>
    (htap d i ch).trans (calcFir_eq d i ch).symm
  refine ⟨?_, ?_, ?_⟩
  · rintro pos rfl
    refine ⟨_, _, exec_microInstr .e22 s, rfl, ?_⟩
    simp only [hfir, ofNat_mod_16, ← halved_memReadWord]
    rfl
  · refine exec_microInstr_of_mapDsp (op := .e23) rfl ?_
    simp only [opE23, echoRead, hfir, halved_memReadWord, echoWordAddr_right_succ]
    rfl
  · refine exec_microInstr_of_mapDsp (op := .e24) rfl ?_
    simp only [hfir]
    rfl

/-- Settles O30: E25 is `lastTaps` of its two taps on each channel. -/
theorem e25WrapsThenClamps : Obligations.E25WrapsThenClamps := by
  intro s tap htap
  refine exec_microInstr_of_mapDsp (op := .e25) rfl ?_
  simp only [htap, ← calcFir_eq]
  rfl

/-! ### The words of the data formats -/

/-- A byte stored in a register that no buffer follows is the bank's change alone (R362). -/
theorem Dsp.writeRegister_eq_setReg {a : RegAddr} (h8 : a.val % 16 ≠ 8) (h9 : a.val % 16 ≠ 9) (hkon : a.val ≠ 0x4C) (hendx : a.val ≠ 0x7C)
    (d : Dsp) (b : Byte) : d.writeRegister a b = d.setReg a b := by
  unfold Dsp.writeRegister
  simp only [if_neg h8, if_neg h9, if_neg hkon, if_neg hendx]

/-- The registers of a voice below index 8 are such registers. -/
theorem Dsp.writeRegister_vreg {v : VoiceId} {r : Fin 16} (hr : r.val < 8) (d : Dsp) (b : Byte) :
    d.writeRegister (vreg v r) b = d.setReg (vreg v r) b := by
  have hval : (vreg v r).val = 16 * v.val + r.val := rfl
  exact Dsp.writeRegister_eq_setReg (by omega) (by omega) (by omega) (by omega) d b

theorem pitchHigh_pitchhByte (x : BitVec 2) (p : BitVec 6) : pitchHigh (pitchhByte x p) = (p.toNat * 0x100 : Nat) := by
  have hlow : (pitchhByte x p).toNat % 64 = p.toNat := by
    rw [pitchhByte_toNat]
    omega
  rw [pitchHigh, hlow]
  exact (Nat.cast_mul _ _).symm

/-- Settles O50: each word's bytes, and the one read of its unit. -/
theorem dataWordsAreTaken : Obligations.DataWordsAreTaken := by
  refine fun s v => ⟨fun r m e n => ⟨flgByte r m e n, flgByte_toNat r m e n, rfl⟩, fun x p => ⟨pitchhByte x p, pitchhByte_toNat x p, ?_⟩,
    fun start loopAddr => rfl, fun left right => ?_, fun left right => ⟨_, rfl, ?_⟩⟩
  · have hstored := Dsp.writeRegister_vreg (v := v) (r := 3) (by decide) s.dsp (pitchhByte x p)
    show execPitchhFields v x p s = _
    rw [execPitchhFields, State.mapDsp, hstored, opV3a, Dsp.reg_setReg_self, pitchHigh_pitchhByte]
    rfl
  · show execEchoFrame left right s = _
    rw [execEchoFrame, halved, halved, asr_one, asr_one]
    rfl
  · simp only [extractLsb'_eq_lowByte, extractLsb'_eq_highByte]
    rfl

/-- An envelope run as a data word makes it: only the voice changes (R261). -/
theorem envelopeRun_eq_setVoice (p : Params) (v : VoiceId) (d : Dsp) :
    envelopeRun p v d = d.setVoice v ((envelopeRun p v d).voice v) := by
  rw [envelopeRun, Dsp.voice_setVoice_self]

/-- What an envelope run leaves of its voice (R261). -/
theorem envelopeRan_voice (p : Params) (v : VoiceId) (d : Dsp) :
    EnvelopeRan p d.counter d.tAdsr0 (d.reg (vreg v 6)) (d.reg (vreg v 7)) (d.voice v) ((envelopeRun p v d).voice v) := by
  rw [envelopeRun, Dsp.voice_setVoice_self]
  exact envelopeRan_envelopeRun ..

/-- A byte in ADSR2 or GAIN of a voice and an envelope run with it (entry 14). -/
theorem envelopeWith_eq {v : VoiceId} {r : Fin 16} (hr : r.val < 8) (b : Byte) (s : State) :
    envelopeWith v r b s = { s with
      dsp := (s.dsp.setReg (vreg v r) b).setVoice v ((envelopeRun s.params v (s.dsp.setReg (vreg v r) b)).voice v) } := by
  rw [envelopeWith, State.mapDsp, Dsp.writeRegister_vreg hr, ← envelopeRun_eq_setVoice]

theorem vreg_ne {v : VoiceId} {r q : Fin 16} (h : r ≠ q) : vreg v r ≠ vreg v q := fun he => by
  have hval : 16 * v.val + r.val = 16 * v.val + q.val := congrArg Fin.val he
  exact h (Fin.ext (by omega))

/-- A byte in GAIN and an envelope run with it (R115; entry 14). -/
theorem envelopeWith_gain (v : VoiceId) (b : Byte) (s : State) :
    envelopeWith v 7 b s = { s with dsp := (s.dsp.setReg (vreg v 7) b).setVoice v ((envelopeWith v 7 b s).dsp.voice v) } ∧
    EnvelopeRan s.params s.dsp.counter s.dsp.tAdsr0 (s.dsp.reg (vreg v 6)) b (s.dsp.voice v) ((envelopeWith v 7 b s).dsp.voice v) := by
  have hran := envelopeRan_voice s.params v (s.dsp.setReg (vreg v 7) b)
  rw [Dsp.reg_setReg_self, Dsp.reg_setReg, if_neg (vreg_ne (by decide))] at hran
  rw [envelopeWith_eq (by decide), Dsp.voice_setVoice_self]
  exact ⟨rfl, hran⟩

/-- Settles O52: each pattern's byte, stored in GAIN and run. -/
theorem gainWordsRunTheEnvelope : Obligations.GainWordsRunTheEnvelope := by
  intro s v level r i b hmem
  obtain ⟨b', hexec, hb⟩ : ∃ b', exec i s = .next (envelopeWith v 7 b' s) ∧ b'.toNat = b.toNat := by
    simp only [List.mem_cons, Prod.mk.injEq, List.not_mem_nil, or_false] at hmem
    rcases hmem with ⟨rfl, hb⟩ | ⟨rfl, hb⟩ | ⟨rfl, hb⟩ | ⟨rfl, hb⟩ | ⟨rfl, hb⟩
    · exact ⟨_, rfl, (gainDirectByte_toNat level).trans hb.symm⟩
    · exact ⟨_, rfl, (gainModeByte_toNat 0 r).trans hb.symm⟩
    · exact ⟨_, rfl, (gainModeByte_toNat 1 r).trans hb.symm⟩
    · exact ⟨_, rfl, (gainModeByte_toNat 2 r).trans hb.symm⟩
    · exact ⟨_, rfl, (gainModeByte_toNat 3 r).trans hb.symm⟩
  obtain rfl := BitVec.eq_of_toNat_eq hb
  exact ⟨_, hexec, envelopeWith_gain v b' s⟩

/-- Settles O51: the byte in its latch or register, and the envelope run with it. -/
theorem adsrWordsRunTheEnvelope : Obligations.AdsrWordsRunTheEnvelope := by
  refine fun s v => ⟨fun e d a => ⟨adsr1Byte e d a, _, adsr1Byte_toNat e d a, rfl, ?_, ?_⟩,
    fun l r => ⟨adsr2Byte l r, _, adsr2Byte_toNat l r, rfl, ?_, ?_⟩⟩
  · exact congrArg (fun d => { s with dsp := d }) (envelopeRun_eq_setVoice s.params v { s.dsp with tAdsr0 := adsr1Byte e d a })
  · exact envelopeRan_voice s.params v { s.dsp with tAdsr0 := adsr1Byte e d a }
  · rw [envelopeWith_eq (by decide), Dsp.voice_setVoice_self]
  · have hran := envelopeRan_voice s.params v (s.dsp.setReg (vreg v 6) (adsr2Byte l r))
    rw [Dsp.reg_setReg_self, Dsp.reg_setReg, if_neg (vreg_ne (by decide))] at hran
    rw [envelopeWith_eq (by decide), Dsp.voice_setVoice_self]
    exact hran

/-- A group decoded from given latches: the ring and its position, and no other field (R240, R249). -/
theorem decodeGroup_latches (m : Memory) (v : VoiceId) (d : Dsp) (header first : Byte) :
    decodeGroup m v { d with tBrrHeader := header, tBrrByte := first } =
      Dsp.setVoice { d with tBrrHeader := header, tBrrByte := first } v { d.voice v with
        buf := decodeFour header first (memRead m ((d.voice v).brrAddr + BitVec.ofNat 16 ((d.voice v).brrOffset + 1)))
          (d.voice v).bufPos (d.voice v).buf
        bufPos := ((d.voice v).bufPos + 4) % 12 } := rfl

/-- Settles O53: each word is one of the two latches, and the group is decoded from them. -/
theorem brrWordsDecodeAGroup : Obligations.BrrWordsDecodeAGroup := by
  intro s v sh f bad l e i header first hmem
  have hexec : exec i s = .next { s with dsp := decodeGroup s.aram v { s.dsp with tBrrHeader := header, tBrrByte := first } } := by
    have hheader : ∀ b : Byte, header.toNat = b.toNat → first = s.dsp.tBrrByte → exec i s = .next (decodeWith v b s) →
        exec i s = .next { s with dsp := decodeGroup s.aram v { s.dsp with tBrrHeader := header, tBrrByte := first } } :=
      fun b hb hfirst h => by
        obtain rfl := BitVec.eq_of_toNat_eq hb
        rw [h, hfirst]
        rfl
    simp only [List.mem_cons, Prod.mk.injEq, List.not_mem_nil, or_false] at hmem
    rcases hmem with ⟨rfl, hb, hf⟩ | ⟨rfl, hb, hf⟩ | ⟨rfl, hb, hf⟩ | ⟨rfl, hb, hf⟩ | ⟨rfl, hb, hf⟩ | ⟨rfl, hb, hf⟩ | ⟨rfl, hb, hf⟩
    · exact hheader _ (hb.trans (brrHeaderByte_toNat sh 0 l e).symm) hf rfl
    · exact hheader _ (hb.trans (brrHeaderByte_toNat sh 1 l e).symm) hf rfl
    · exact hheader _ (hb.trans (brrHeaderByte_toNat sh 2 l e).symm) hf rfl
    · exact hheader _ (hb.trans (brrHeaderByte_toNat sh 3 l e).symm) hf rfl
    · exact hheader _ (hb.trans (brrHeaderByte_toNat sh f l e).symm) hf rfl
    · refine hheader (brrHeaderByte (invalidShift bad) f l e) ?_ hf rfl
      rw [hb, brrHeaderByte_toNat, invalidShift_toNat]
    · have hdata : brrDataByte sh (f ++ bad) = first := by
        apply BitVec.eq_of_toNat_eq
        rw [hf, brrDataByte_toNat, toNat_append_eq, BitVec.toNat_ofNat]
        omega
      rw [← hdata, BitVec.eq_of_toNat_eq hb]
      rfl
  refine ⟨_, _, hexec, rfl, ?_, ?_⟩
  · rw [decodeGroup_latches, Dsp.voice_setVoice_self]
  · rw [decodeGroup_latches, Dsp.voice_setVoice_self]
    exact decodedGroup_decodeFour ..

/-- A header with the end flag and without the loop flag releases and silences its voice (R209). -/
theorem forceRelease_of_terminates {d : Dsp} (h : headerTerminates d.tBrrHeader = true) (v : VoiceId) :
    forceRelease v d = d.setVoice v { d.voice v with envMode := .release, env := 0 } := if_pos (.inr h)

theorem headerEnd_brrHeaderByte (s : BitVec 4) (f : BitVec 2) (l e : Bool) : headerEnd (brrHeaderByte s f l e) = e := by
  obtain ⟨-, -, -, h0⟩ := brrHeaderByte_fields s f l e
  exact h0

/-- The block advance with an end header (R213). -/
theorem blockAdvance_of_end {d : Dsp} (h : headerEnd d.tBrrHeader = true) (v : VoiceId) :
    blockAdvance v d =
      if 9 ≤ (d.voice v).brrOffset + 2 then
        Dsp.setVoice { d with tLooped := BitVec.ofNat 8 (2 ^ v.val) } v { d.voice v with brrAddr := d.tBrrNextAddr, brrOffset := 1 }
      else d.setVoice v { d.voice v with brrOffset := (d.voice v).brrOffset + 2 } := by
  unfold blockAdvance
  rw [← vbit_eq]
  simp only [h, if_true]

/-- The block advance with another header (R213). -/
theorem blockAdvance_of_not_end {d : Dsp} (h : headerEnd d.tBrrHeader = false) (v : VoiceId) :
    blockAdvance v d = d.setVoice v
      (if 9 ≤ (d.voice v).brrOffset + 2 then { d.voice v with brrAddr := (d.voice v).brrAddr + 9, brrOffset := 1 }
      else { d.voice v with brrOffset := (d.voice v).brrOffset + 2 }) := by
  unfold blockAdvance
  simp only [h, ge_iff_le]
  split <;> rfl

/-- Settles O54: the flags of the header byte choose the branch. -/
theorem brrFlagsActOnTheBlock : Obligations.BrrFlagsActOnTheBlock := by
  rintro s v sh f l x rfl
  refine ⟨⟨brrHeaderByte sh f false true, brrHeaderByte_toNat sh f false true, ?_⟩,
    ⟨brrHeaderByte sh f true true, brrHeaderByte_toNat sh f true true, ?_⟩,
    ⟨brrHeaderByte sh f l false, brrHeaderByte_toNat sh f l false, ?_⟩⟩
  · have hterminates : headerTerminates (brrHeaderByte sh f false true) = true := by
      rw [headerTerminates, brrHeaderByte_mod_four]
      rfl
    show execBrrTerminator v sh f s = _
    rw [execBrrTerminator, State.mapDsp, forceRelease_of_terminates hterminates]
    rfl
  · show Host.Outcome.next (advanceWith v _ s) = _
    rw [advanceWith, State.mapDsp, blockAdvance_of_end (headerEnd_brrHeaderByte sh f true true)]
    rfl
  · show Host.Outcome.next (advanceWith v _ s) = _
    rw [advanceWith, State.mapDsp, blockAdvance_of_not_end (headerEnd_brrHeaderByte sh f l false)]
    rfl

end Sys2Proof.Machine

/-! PROOFS. 46_output_resampler.md: the operations that clear (R331, R335, R338 to R340), the queries (R336, R337), and `Read` frame by
frame and piece by piece (R333, R334). -/

namespace Sys2Proof.Machine

/-! ### The operations that clear, and the queries -/

/-- `Resize` gives the capacity and clears (R339). -/
theorem Resampler.resize_eq (size : Nat) (r : Resampler) :
    r.resize size = ⟨List.replicate size 0, 0, 0, r.step, 1, .zero, .zero⟩ := by
  rw [resize, clear, List.length_replicate]

/-- Settles O44: each operation is its fault or a cleared resampler. -/
theorem resamplerClears : Obligations.ResamplerClears := by
  intro n q s cleared hcleared
  simp only [hcleared]
  refine ⟨?_, ?_, rfl, rfl⟩
  · split
    · next h => exact ⟨if_pos h, if_pos h⟩
    · next h =>
      refine ⟨if_neg h, ?_⟩
      show execResize n s = _
      rw [execResize, if_neg h, Resampler.resize_eq]
      rfl
  · split
    · next h => exact if_pos h
    · next h => exact if_neg h

/-- The count of `Available`: the floor of a quotient, or 0, is the largest count that fits (R337). -/
theorem max_floor_div_spec {x step : Rat} (hstep : 0 < step) :
    ((max 0 (x / step).floor : Int) * step ≤ x ∨ max 0 (x / step).floor = 0) ∧
      x < ((max 0 (x / step).floor + 1 : Int) : Rat) * step := by
  have hle : ((x / step).floor : Rat) * step ≤ x := (le_div_iff₀ hstep).mp (Rat.floor_le _)
  have hlt : x < (((x / step).floor + 1 : Int) : Rat) * step := by
    refine (div_lt_iff₀ hstep).mp ?_
    rw [Int.cast_add, Int.cast_one]
    exact sub_lt_iff_lt_add.mp Rat.lt_floor
  rcases le_total 0 (x / step).floor with h | h
  · rw [max_eq_right h]
    exact ⟨.inl hle, hlt⟩
  · rw [max_eq_left h]
    have hone : (((x / step).floor + 1 : Int) : Rat) ≤ ((0 + 1 : Int) : Rat) := Int.cast_le.mpr (by omega)
    exact ⟨.inr rfl, hlt.trans_le (mul_le_mul_of_nonneg_right hone hstep.le)⟩

/-- Settles O45. -/
theorem resamplerQueries : Obligations.ResamplerQueries := by
  refine fun s => ⟨rfl, max 0 _, ?_, le_max_left _ _, fun hstep => max_floor_div_spec hstep⟩
  show execAvailable s = _
  rw [execAvailable, Resampler.available, mul_comm]
  rfl

/-! ### The loops of `Read`

Each loop by its cases (R333): an output frame while the position is at most 1, an input frame when it is above. -/

/-- `Read` of a number of frames. -/
def Resampler.readFrames (want : Nat) (r : Resampler) : List Int × Resampler := readLoop (r.size / 4) want r

/-- `Read` counts in frames (R333). -/
theorem Resampler.read_eq_readFrames (k : Int) (r : Resampler) : r.read k = r.readFrames (framesWanted k) := rfl

/-- `Read` completes with its samples reported and the resampler after it (R333). -/
theorem exec_readSamples (k : Int) (s : State) : exec (.readSamples k) s =
    .next { s with results := s.results ++ [.samples (s.resampler.read k).1], resampler := (s.resampler.read k).2 } := rfl

section
variable {r : Resampler}

/-- Output frames take nothing from the ring. -/
theorem Resampler.size_emit (want : Nat) : (emit want r).2.1.size = r.size := by
  induction want generalizing r with
  | zero => rfl
  | succ want ih =>
    by_cases h : r.frac ≤ 1
    · rw [emit_of_le h, ih]
    · rw [emit_of_lt (lt_of_not_ge h)]

/-- With no frame wanted `Read` does nothing. -/
theorem Resampler.readFrames_zero : r.readFrames 0 = ([], r) := by
  rw [readFrames]
  cases r.size / 4 <;> rfl

/-- With no whole frame stored `Read` does nothing (R333). -/
theorem Resampler.readFrames_of_size_lt (h : r.size < 4) (want : Nat) : r.readFrames want = ([], r) := by
  rw [readFrames, Nat.div_eq_of_lt h]
  cases want <;> rfl

/-- `Read` ends when the output frames it wants leave the position at most 1. -/
theorem Resampler.readFrames_succ_of_le (hsize : 4 ≤ r.size) {want : Nat} (h : (emit (want + 1) r).2.1.frac ≤ 1) :
    r.readFrames (want + 1) = ((emit (want + 1) r).1, (emit (want + 1) r).2.1) := by
  rw [readFrames, Nat.div_eq_sub_div (by decide) hsize]
  exact if_pos h

/-- Else it takes an input frame and goes on with the frames still wanted. -/
theorem Resampler.readFrames_succ_of_lt (hsize : 4 ≤ r.size) {want : Nat} (h : 1 < (emit (want + 1) r).2.1.frac) :
    r.readFrames (want + 1) = ((emit (want + 1) r).1 ++ ((emit (want + 1) r).2.1.pull.readFrames (emit (want + 1) r).2.2).1,
      ((emit (want + 1) r).2.1.pull.readFrames (emit (want + 1) r).2.2).2) := by
  have hrest : (emit (want + 1) r).2.1.pull.size = r.size - 4 := congrArg (· - 4) (size_emit (want + 1))
  rw [readFrames, readFrames, hrest, Nat.div_eq_sub_div (by decide) hsize]
  exact if_neg (not_le_of_gt h)

/-- Entered with the position above 1, `Read` first takes an input frame (R333). -/
theorem Resampler.read_of_lt (h : 1 < r.frac) (hsize : 4 ≤ r.size) {k : Int} (hk : 2 ≤ k) : r.read k = r.pull.read k := by
  obtain ⟨want, hwant⟩ : ∃ want, framesWanted k = want + 1 := ⟨k.toNat / 2 - 1, by rw [framesWanted]; omega⟩
  have hemit := emit_of_lt h (want + 1)
  have hlt : 1 < (emit (want + 1) r).2.1.frac := by rwa [hemit]
  rw [read_eq_readFrames, read_eq_readFrames, hwant, readFrames_succ_of_lt hsize hlt, hemit]
  rfl

/-- `Read` of two samples at a position at most 1: one output frame, and an input frame taken where the ratio moves the position
past 1 (R333). -/
theorem Resampler.read_two_of_le (h : r.frac ≤ 1) (hsize : 4 ≤ r.size) : r.read 2 = (r.outputFrame,
    if r.frac + r.step ≤ 1 then { r with frac := r.frac + r.step } else { r with frac := r.frac + r.step }.pull) := by
  have hone : framesWanted 2 = 0 + 1 := rfl
  have hemit : emit (0 + 1) r = (r.outputFrame, { r with frac := r.frac + r.step }, 0) := emit_of_le h 0
  rw [read_eq_readFrames, hone]
  split
  · next hmove =>
    have hle : (emit (0 + 1) r).2.1.frac ≤ 1 := by rwa [hemit]
    rw [readFrames_succ_of_le hsize hle, hemit]
  · next hmove =>
    have hlt : 1 < (emit (0 + 1) r).2.1.frac := by
      rw [hemit]
      exact lt_of_not_ge hmove
    rw [readFrames_succ_of_lt hsize hlt, hemit, readFrames_zero, List.append_nil]

end

/-! ### Frame by frame -/

/-- A byte of the ring, where the ring has one (R330). -/
theorem Resampler.byteAt_of_getElem? {r : Resampler} {i : Nat} {b : Byte}
    (h : r.buffer[(r.start + i) % r.buffer.length]? = some b) : r.byteAt i = b := by
  rw [byteAt, List.getD_eq_getElem?_getD, h, Option.getD_some]

/-- The oldest frame, from its four bytes (R129, R333). -/
theorem Resampler.oldestFrame_of_bytes {r : Resampler} {byte : Nat → Byte} {x y : Int}
    (hbyte : ∀ i, i < 4 → r.buffer[(r.start + i) % r.buffer.length]? = some (byte i))
    (hx : x = sext16 ((byte 0).toNat + 0x100 * (byte 1).toNat)) (hy : y = sext16 ((byte 2).toNat + 0x100 * (byte 3).toNat)) :
    r.oldestFrame = ⟨x, y⟩ := by
  have hbyteAt : ∀ i, i < 4 → r.byteAt i = byte i := fun i hi => byteAt_of_getElem? (hbyte i hi)
  simp only [oldestFrame, wordOfBytes_toInt, hbyteAt, Nat.reduceLT, hx, hy]

/-- `Hermite` with the basis polynomials of R334 written as powers. -/
theorem hermite_eq {mu : Rat} {g : History} {y : Int}
    (hy : ∃ value : Rat, y = value.num.tdiv value.den ∧
      value = (2 * mu ^ 3 - 3 * mu ^ 2 + 1) * g.b + (mu ^ 3 - 2 * mu ^ 2 + mu) * (((g.c : Rat) - g.a) / 2)
        + (mu ^ 3 - mu ^ 2) * (((g.d : Rat) - g.b) / 2) + (-2 * mu ^ 3 + 3 * mu ^ 2) * g.c) : hermite mu g = y := by
  obtain ⟨value, htrunc, hvalue⟩ := hy
  have hsame : hermiteValue mu g = value := by
    simp only [hvalue, hermiteValue, Int.cast_sub]
    ring
  rw [hermite, hsame, truncate, htrunc]

/-- Settles O47: `Read` by its cases, with the model's frame and kernel named as the statement does. -/
theorem readOneFrame : Obligations.ReadOneFrame := by
  intro s r pulled h byte x y hr
  subst hr
  refine ⟨fun hsize k => ?_, fun _ hsize hhermite hbyte hx hy hpulled => ?_⟩
  · rw [exec_readSamples, Resampler.read_eq_readFrames, Resampler.readFrames_of_size_lt hsize]
  have hpull : ∀ position, ({ s.resampler with frac := position } : Resampler).pull = pulled position := by
    intro position
    rw [Resampler.pull, Resampler.oldestFrame_of_bytes (r := { s.resampler with frac := position }) hbyte hx hy, hpulled]
    rfl
  refine ⟨fun hfrac k hk => ?_, fun hfrac => ?_⟩
  · rw [← hpull, exec_readSamples, exec_readSamples, Resampler.read_of_lt hfrac hsize hk]
  · rw [exec_readSamples, Resampler.read_two_of_le hfrac hsize, Resampler.outputFrame, hermite_eq (hhermite _ _),
      hermite_eq (hhermite _ _), hpull]

/-! ### In pieces -/

section
variable {r : Resampler}

/-- Where the frames of a first piece leave the position at most 1, a second piece goes on from there. -/
theorem Resampler.emit_add_of_le {m : Nat} (h : (emit m r).2.1.frac ≤ 1) (n : Nat) :
    emit (m + n) r = ((emit m r).1 ++ (emit n (emit m r).2.1).1, (emit n (emit m r).2.1).2) := by
  induction m generalizing r with
  | zero => rw [Nat.zero_add]; rfl
  | succ m ih =>
    by_cases hr : r.frac ≤ 1
    · rw [emit_of_le hr] at h ⊢
      rw [Nat.succ_add, emit_of_le hr, ih h, List.append_assoc]
    · rw [emit_of_lt (lt_of_not_ge hr)] at h
      exact absurd h hr

/-- Where they leave it above 1, the second piece's frames are still wanted. -/
theorem Resampler.emit_add_of_lt {m : Nat} (h : 1 < (emit m r).2.1.frac) (n : Nat) :
    emit (m + n) r = ((emit m r).1, (emit m r).2.1, (emit m r).2.2 + n) := by
  induction m generalizing r with
  | zero =>
    have hr : 1 < r.frac := h
    rw [Nat.zero_add, emit_of_lt hr, emit_of_lt hr, Nat.zero_add]
  | succ m ih =>
    by_cases hr : r.frac ≤ 1
    · rw [emit_of_le hr] at h ⊢
      rw [Nat.succ_add, emit_of_le hr, ih h]
    · rw [emit_of_lt (lt_of_not_ge hr), emit_of_lt (lt_of_not_ge hr)]

/-- The second piece, where the first one's output frames leave the position at most 1: the same output frames again. -/
theorem Resampler.readFrames_add_of_le (hsize : 4 ≤ r.size) {m : Nat} (h : (emit (m + 1) r).2.1.frac ≤ 1) (n : Nat) :
    r.readFrames (m + 1 + n) = ((r.readFrames (m + 1)).1 ++ ((r.readFrames (m + 1)).2.readFrames n).1,
      ((r.readFrames (m + 1)).2.readFrames n).2) := by
  have hsize' : 4 ≤ (emit (m + 1) r).2.1.size := by rwa [size_emit]
  have hemit := emit_add_of_le h n
  rw [readFrames_succ_of_le hsize h]
  cases n with
  | zero => rw [Nat.add_zero, readFrames_succ_of_le hsize h, readFrames_zero, List.append_nil]
  | succ n =>
    rcases le_or_gt (emit (n + 1) (emit (m + 1) r).2.1).2.1.frac 1 with hle | hlt
    · have hwhole : (emit (m + 1 + n + 1) r).2.1.frac ≤ 1 := by rwa [Nat.add_assoc, hemit]
      rw [readFrames_succ_of_le hsize' hle, ← Nat.add_assoc, readFrames_succ_of_le hsize hwhole, Nat.add_assoc, hemit]
    · have hwhole : 1 < (emit (m + 1 + n + 1) r).2.1.frac := by rwa [Nat.add_assoc, hemit]
      rw [readFrames_succ_of_lt hsize' hlt, ← Nat.add_assoc, readFrames_succ_of_lt hsize hwhole, Nat.add_assoc, hemit,
        List.append_assoc]

end

/-- `Read` of two pieces' frames is the second piece's read after the first one's (R333): by induction on the whole frames stored. -/
theorem Resampler.readFrames_add (m n : Nat) (r : Resampler) : r.readFrames (m + n) =
    ((r.readFrames m).1 ++ ((r.readFrames m).2.readFrames n).1, ((r.readFrames m).2.readFrames n).2) := by
  induction hstored : r.size using Nat.strong_induction_on generalizing m r with
  | _ size ih =>
    rcases Nat.lt_or_ge r.size 4 with hsize | hsize
    · rw [readFrames_of_size_lt hsize, readFrames_of_size_lt hsize, readFrames_of_size_lt hsize]
      rfl
    cases m with
    | zero => rw [Nat.zero_add, readFrames_zero]; rfl
    | succ m =>
      rcases le_or_gt (emit (m + 1) r).2.1.frac 1 with hle | hlt
      · exact readFrames_add_of_le hsize hle n
      · have hsmaller : (emit (m + 1) r).2.1.pull.size < size := by
          show (emit (m + 1) r).2.1.size - 4 < size
          rw [size_emit]
          omega
        have hemit := emit_add_of_lt hlt n
        have hwhole : 1 < (emit (m + n + 1) r).2.1.frac := by rwa [Nat.add_right_comm, hemit]
        rw [readFrames_succ_of_lt hsize hlt, Nat.add_right_comm, readFrames_succ_of_lt hsize hwhole, Nat.add_right_comm, hemit,
          ih _ hsmaller _ _ rfl, List.append_assoc]

/-- `Read` delivers two samples a frame, and never more frames than it wants (R333). -/
theorem Resampler.length_readFrames {r : Resampler} (hwf : r.Wf) (want : Nat) :
    ∃ n ≤ want, (r.readFrames want).1.length = 2 * n := by
  induction hstored : r.size using Nat.strong_induction_on generalizing want r with
  | _ size ih =>
    rcases Nat.lt_or_ge r.size 4 with hsize | hsize
    · exact ⟨0, Nat.zero_le _, by rw [readFrames_of_size_lt hsize]; rfl⟩
    cases want with
    | zero => exact ⟨0, Nat.le_refl _, by rw [readFrames_zero]; rfl⟩
    | succ want =>
      obtain ⟨hmid, hemit, -, hlength, hleft⟩ := emit_spec hwf.mid (want + 1)
      rcases le_or_gt (emit (want + 1) r).2.1.frac 1 with hle | hlt
      · exact ⟨_, Nat.sub_le _ _, by rw [readFrames_succ_of_le hsize hle, hlength]⟩
      · have hsmaller : (emit (want + 1) r).2.1.pull.size < size := by
          show (emit (want + 1) r).2.1.size - 4 < size
          rw [hemit]
          omega
        obtain ⟨n, hn, hrest⟩ := ih _ hsmaller (pull_wf hmid (hemit ▸ hsize) hlt) (emit (want + 1) r).2.2 rfl
        refine ⟨want + 1 - (emit (want + 1) r).2.2 + n, by omega, ?_⟩
        rw [readFrames_succ_of_lt hsize hlt, List.length_append, hlength, hrest, Nat.mul_add]

/-- An odd count acts as the even one below (R333). -/
theorem framesWanted_even (k : Int) : framesWanted (2 * (k / 2)) = framesWanted k := by
  simp only [framesWanted]
  omega

/-- Two samples are wanted for each frame (R333). -/
theorem framesWanted_two_mul (n : Nat) : framesWanted (2 * n : Nat) = n := by
  simp only [framesWanted]
  omega

/-- Settles O48: `Read` counts in frames, and its frames come in pieces. -/
theorem readInPieces : Obligations.ReadInPieces := by
  intro m n k s hwf
  constructor
  · obtain ⟨frames, hframes, hlength⟩ := Resampler.length_readFrames hwf (framesWanted k)
    refine ⟨_, _, exec_readSamples k s, rfl, ?_, ?_, fun hk => ?_, ?_⟩
    · rw [Resampler.read_eq_readFrames, hlength]
      rw [framesWanted] at hframes
      omega
    · rw [Resampler.read_eq_readFrames, hlength, Nat.mul_mod_right]
    · have hnone : framesWanted k = 0 := by
        rw [framesWanted]
        omega
      rw [Resampler.read_eq_readFrames, hnone, Resampler.readFrames_zero]
      exact ⟨rfl, rfl⟩
    · rw [exec_readSamples, Resampler.read_eq_readFrames, framesWanted_even]
      rfl
  · refine ⟨_, _, _, _, _, exec_readSamples _ s, rfl, exec_readSamples _ _, rfl, exec_readSamples _ s, ?_, ?_⟩
    · simp only [Resampler.read_eq_readFrames, framesWanted_two_mul, Resampler.readFrames_add m n]
    · simp only [Resampler.read_eq_readFrames, framesWanted_two_mul, Resampler.readFrames_add m n]

end Sys2Proof.Machine
